-- ==== Sys2Proof/Word.lean ====
section
/-! DEFINITION. The widths of the block's quantities, and the two data types that its registers and results
are made of: the IPv4 header in working form (10_state R20, R23) and the address classes (30_encoding R103). -/

namespace Sys2Proof

/-- One byte of a frame buffer, a command code, a protocol number (00_scope R11). -/
abbrev Byte := BitVec 8
/-- A 16-bit quantity: a checksum word, a seed, a length, an offset (00_scope R9 OFFSET_WIDTH). -/
abbrev Half := BitVec 16
/-- A 32-bit register, an IPv4 address, a clock value (00_scope R9 CLOCK_WIDTH). -/
abbrev Word := BitVec 32

/-- The working form of an IPv4 header: registers 16 to 26 of 10_state R20, as numbers (R23, R24). -/
structure Header where
  version   : BitVec 4
  ihl       : BitVec 4
  tos       : Byte
  len       : Half
  ident     : Half
  flagsFrag : Half
  ttl       : Byte
  proto     : Byte
  csum      : Half
  src       : Word
  dst       : Word
deriving DecidableEq, Repr, Inhabited

/-- The five results of the address classifier (41_classifier R152, 30_encoding R103). -/
inductive AddrClass where
  | unicast | unspecified | broadcast | multicast | notForUs
deriving DecidableEq, Repr

end Sys2Proof
end

