-- ==== Sys2Proof/Config.lean ====
section
/-! DEFINITION. The constants of 00_scope R7 to R9, each with the default the spec gives (log 14, log 15), and
the model's free values: constants with no body, of which nothing can be proved. -/

namespace Sys2Proof

/-- LINK_ADDR_WIDTH (00_scope R8, 93 G7). PRESUMED by the spec (log 14). -/
abbrev Config.linkAddrWidth : Nat := 48

/-- A link address; its most significant byte is the first on the wire (30_encoding R104). -/
abbrev LinkAddr := BitVec Config.linkAddrWidth

end Sys2Proof

namespace Sys2Proof.Config

/-- 00_scope R7: the fixed on-wire header is 20 bytes. -/
def ipv4HdrLen : Nat := 20
/-- 00_scope R7. -/
def ihlMin : Nat := 5
/-- 00_scope R7. -/
def ipVersion : BitVec 4 := 4#4
/-- 00_scope R7: `0.0.0.0`. -/
def addrUnspecified : Word := 0x00000000#32
/-- 00_scope R7: `255.255.255.255`. -/
def addrLimitedBcast : Word := 0xFFFFFFFF#32
/-- 00_scope R7: neighbor-resolution maintenance interval, in clock units. -/
def arpInterval : Word := 10#32
/-- 00_scope R7: transport timeout interval, in clock units. -/
def tcpInterval : Word := 1#32

/-- 00_scope R8, 93 G1. PRESUMED by the spec (log 14). -/
def addrAllHosts : Word := 0xE0000001#32
/-- 00_scope R8, 93 G2. PRESUMED by the spec (log 14). -/
def addrLoopback : Word := 0x7F000001#32
/-- 00_scope R8, 93 G5. PRESUMED by the spec (log 14). -/
def netmaskA : Word := 0xFF000000#32
/-- 00_scope R8, 93 G5. PRESUMED by the spec (log 14). -/
def netmaskB : Word := 0xFFFF0000#32
/-- 00_scope R8, 93 G5. PRESUMED by the spec (log 14). -/
def netmaskC : Word := 0xFFFFFF00#32
/-- 00_scope R8, 93 G3. PRESUMED by the spec (log 14). -/
def protoIcmp : Byte := 1#8
/-- 00_scope R8, 93 G3. PRESUMED by the spec (log 14). -/
def protoTcp : Byte := 6#8
/-- 00_scope R8, 93 G4. PRESUMED by the spec (log 14). -/
def ethertypeIpv4 : Half := 0x0800#16
/-- 00_scope R8, 93 G4. PRESUMED by the spec (log 14). -/
def ethertypeArp : Half := 0x0806#16
/-- 00_scope R8, 93 G8. PRESUMED by the spec (log 14). -/
def linkHdrLen : Nat := 14
/-- 00_scope R8, 93 G8. PRESUMED by the spec (log 14). -/
def linkTypeOffset : Nat := 12
/-- 00_scope R8, 93 G7. PRESUMED by the spec (log 14). -/
def linkBcast : LinkAddr := BitVec.ofNat linkAddrWidth 0xFFFFFFFFFFFF

/-- 00_scope R9, decision D16, 93 G10 (log 15). -/
def txTos : Byte := 0x00#8
/-- 00_scope R9, decision D16, 93 G10 (log 15). -/
def txIdent : Half := 0x0000#16
/-- 00_scope R9, decision D16, 93 G10: don't-fragment set, offset 0 (log 15). -/
def txFlagsFrag : Half := 0x4000#16
/-- 00_scope R9, decision D16, 93 G10 (log 15). -/
def txTtl : Byte := 64#8

/-- SOURCELESS_PROTOCOLS, OPEN (00_scope R9, decision D13): the protocols that may be sent with no host
address. No body: a claim holds for every choice of the set (log 16). -/
opaque sourcelessProtocol : Byte → Bool

/-- The answer of a `clock.now()` that `State.env` does not list (45_interfaces R278, log 5). -/
opaque freeClock : Nat → Word
/-- The answer of a `link.writeStart` that `State.env` does not list (45_interfaces R258, log 5). -/
opaque freeWriteStart : Nat → Bool
/-- The answer of a `link.send` that `State.env` does not list (45_interfaces R262, log 5). -/
opaque freeSend : Nat → Bool
/-- The answer of an `arp.lookup` that `State.env` does not list (45_interfaces R264, log 5). -/
opaque freeLookup : Nat → Option LinkAddr
/-- The status that an `arp.request` answers where `State.env` lists none (45_interfaces R265, 93 U20, log 5, log 17). -/
opaque freeRequest : Nat → Byte
/-- The HDR_* registers once HDR_VALID is 0 again (10_state R25, 93 U8, log 4). -/
opaque freeHeader : Nat → Header
/-- TX_LINK_TARGET once TX_START has returned (10_state R27, 93 U8, log 4). -/
opaque freeLinkTarget : Nat → LinkAddr
/-- TX space after `link.send` or a failed `link.writeStart` (45_interfaces R258, R262, 93 U15, log 12). -/
opaque freeTxSpace : Nat → List Byte
/-- The bytes of a link header, by offset, that are the link layer's business (20_memory R63, log 13). -/
opaque freeLinkByte : Nat → Nat → Byte

end Sys2Proof.Config
end

