-- ==== Sys2Proof/Syntax.lean ====
section
/-! DEFINITION. Every row of spec/opcode_table.json as a constructor, and the four formats the rows are written in.
A command carries no operands: they stand in OP0 to OP3 (30_encoding R98, R100). -/

namespace Sys2Proof

/-- Where an encoding stands, which decides how it is read: the table's "format". -/
inductive Format where
  /-- The byte written to CMD (30_encoding R98). -/
  | cmd8
  /-- The type field of the link header (30_encoding R94, R95). -/
  | etherType16
  /-- Header byte 9 (30_encoding R96). -/
  | ipProto8
  /-- Header byte 0 (30_encoding R91). -/
  | ipv4HdrByte0
deriving DecidableEq, Repr

/-- The rows of the table. The four illegal ranges keep the byte that was written. -/
inductive Instr where
  | nop | csumRx | csumTx | phcsum | swap16 | swap32
  | classify | isBcast | sameSubnet
  | rxParse | txStart | txSend
  | frameDemux | timerSvc | netTick | netInit
  | illegal10 (code : Byte)
  | illegal20 (code : Byte)
  | illegal40 (code : Byte)
  | illegal80 (code : Byte)
  | etypeArp | etypeIpv4
  | protoIcmp | protoTcp
  | ipv4Byte0Accepted
deriving DecidableEq, Repr

end Sys2Proof
end

