-- ==== Sys2Proof/WellFormed.lean ====
section
/-! DEFINITION. Which terms of `Instr` the encodings admit: the byte of an illegal command lies in its row's
range (30_encoding R101; match and mask of the table's four illegal rows). -/

namespace Sys2Proof

/-- The table's test of a row: the masked code equals the row's pattern. -/
def rowMatches (mask pattern code : Byte) : Bool := code &&& mask == pattern

/-- Whether an instruction is one the encodings can express. -/
def wellFormed : Instr → Bool
  | .illegal10 code => rowMatches 0xF0#8 0x10#8 code
  | .illegal20 code => rowMatches 0xE0#8 0x20#8 code
  | .illegal40 code => rowMatches 0xC0#8 0x40#8 code
  | .illegal80 code => rowMatches 0x80#8 0x80#8 code
  | .nop | .csumRx | .csumTx | .phcsum | .swap16 | .swap32 | .classify | .isBcast | .sameSubnet
  | .rxParse | .txStart | .txSend | .frameDemux | .timerSvc | .netTick | .netInit
  | .etypeArp | .etypeIpv4 | .protoIcmp | .protoTcp | .ipv4Byte0Accepted => true

end Sys2Proof
end

