-- ==== Sys2Proof/Decode.lean ====
section
/-! DEFINITION. Byte order (00_scope R11), the wire formats (30_encoding R90 to R94, R108), the decoders of the four
formats, and the encoder. -/

namespace Sys2Proof

/-- `be16` of 00_scope R11: most significant byte first. -/
def be16 (v : Half) : List Byte := [v.extractLsb' 8 8, v.extractLsb' 0 8]

/-- `be32` of 00_scope R11. -/
def be32 (v : Word) : List Byte :=
  [v.extractLsb' 24 8, v.extractLsb' 16 8, v.extractLsb' 8 8, v.extractLsb' 0 8]

/-- A link address as bytes, most significant first (30_encoding R104). -/
def linkAddrBytes (v : LinkAddr) : List Byte :=
  (List.range (Config.linkAddrWidth / 8)).map fun i => v.extractLsb' (Config.linkAddrWidth - 8 * (i + 1)) 8

/-- `ntoh16` of 00_scope R11. -/
def ntoh16 (b0 b1 : Byte) : Half := b0 ++ b1

/-- `ntoh32` of 00_scope R11. -/
def ntoh32 (b0 b1 b2 b3 : Byte) : Word := b0 ++ b1 ++ b2 ++ b3

/-- The byte at an offset of a sequence that is long enough to have one. -/
def byteAt (h : List Byte) (i : Nat) : Byte := h.getD i 0#8

/-- The 16-bit field at an offset (20_memory R61). -/
def half16At (h : List Byte) (i : Nat) : Half := ntoh16 (byteAt h i) (byteAt h (i + 1))

/-- The 32-bit field at an offset (20_memory R61). -/
def word32At (h : List Byte) (i : Nat) : Word :=
  ntoh32 (byteAt h i) (byteAt h (i + 1)) (byteAt h (i + 2)) (byteAt h (i + 3))

/-- Version: the high nibble of header byte 0 (30_encoding R91). -/
def versionOf (b0 : Byte) : BitVec 4 := b0.extractLsb' 4 4

/-- ihl: the low nibble of header byte 0 (30_encoding R91). -/
def ihlOf (b0 : Byte) : BitVec 4 := b0.extractLsb' 0 4

/-- The eleven fields of the 20 header bytes (30_encoding R90, R108). Only ever applied to 20 bytes. -/
def loadHeader (h : List Byte) : Header where
  version := versionOf (byteAt h 0)
  ihl := ihlOf (byteAt h 0)
  tos := byteAt h 1
  len := half16At h 2
  ident := half16At h 4
  flagsFrag := half16At h 6
  ttl := byteAt h 8
  proto := byteAt h 9
  csum := half16At h 10
  src := word32At h 12
  dst := word32At h 16

/-- The type field of a link header (30_encoding R94). -/
def etherTypeOf (linkHeader : List Byte) : Half := half16At linkHeader Config.linkTypeOffset

/-- The 12-byte pseudo-header (30_encoding R93). -/
def pseudoHeader (protocol : Byte) (payloadLength : Half) (src dst : Word) : List Byte :=
  be32 src ++ be32 dst ++ [0#8, protocol] ++ be16 payloadLength

/-- The LINK_HDR_LEN bytes of the link header that `link.writeStart` lays down (20_memory R63): the link target first, the
type field at LINK_TYPE_OFFSET, and the link layer's own bytes, `other`, everywhere else. -/
def linkHeader (target : LinkAddr) (other : Nat → Byte) (etherType : Half) : List Byte :=
  (List.range Config.linkHdrLen).map fun o =>
    if o < Config.linkAddrWidth / 8 then byteAt (linkAddrBytes target) o
    else if o = Config.linkTypeOffset then byteAt (be16 etherType) 0
    else if o = Config.linkTypeOffset + 1 then byteAt (be16 etherType) 1
    else other o

/-- The operation a command byte selects: all 8 bits are decoded (30_encoding R98, R99, R101). -/
def decodeCmd (c : Byte) : Instr :=
  match c.toNat with
  | 0x00 => .nop
  | 0x01 => .csumRx
  | 0x02 => .csumTx
  | 0x03 => .phcsum
  | 0x04 => .swap16
  | 0x05 => .swap32
  | 0x06 => .classify
  | 0x07 => .isBcast
  | 0x08 => .sameSubnet
  | 0x09 => .rxParse
  | 0x0A => .txStart
  | 0x0B => .txSend
  | 0x0C => .frameDemux
  | 0x0D => .timerSvc
  | 0x0E => .netTick
  | 0x0F => .netInit
  | n =>
    if n < 0x20 then .illegal10 c
    else if n < 0x40 then .illegal20 c
    else if n < 0x80 then .illegal40 c
    else .illegal80 c

/-- The frame-type arm a type field selects; none is the no-op arm (30_encoding R95). -/
def decodeEtherType (t : Half) : Option Instr :=
  if t = Config.ethertypeArp then some .etypeArp
  else if t = Config.ethertypeIpv4 then some .etypeIpv4
  else none

/-- The protocol arm a protocol number selects; none is the discard arm (30_encoding R96). -/
def decodeProto (p : Byte) : Option Instr :=
  if p = Config.protoIcmp then some .protoIcmp
  else if p = Config.protoTcp then some .protoTcp
  else none

/-- The one header byte 0 that passes the version test and both ihl tests (30_encoding R91). -/
def decodeByte0 (b0 : Byte) : Option Instr :=
  if versionOf b0 = Config.ipVersion ∧ (ihlOf b0).toNat = Config.ihlMin then some .ipv4Byte0Accepted
  else none

/-- Why bytes are no encoding of a format. -/
inductive DecodeError where
  /-- Fewer bytes than the format has. -/
  | truncated (f : Format)
  /-- A type field that selects the no-op arm (30_encoding R95): no row of the table. -/
  | noFrameTypeArm (t : Half)
  /-- A protocol number that selects the discard arm (30_encoding R96): no row of the table. -/
  | noProtocolArm (p : Byte)
  /-- A header byte 0 that fails the version test or an ihl test (30_encoding R91). -/
  | byte0NotAccepted (b0 : Byte)
deriving DecidableEq, Repr

/-- The decoder of a format: the instruction at the front of the bytes and the bytes after it. -/
def decode (f : Format) (bytes : List Byte) : Except DecodeError (Instr × List Byte) :=
  match f, bytes with
  | .cmd8, c :: rest => .ok (decodeCmd c, rest)
  | .etherType16, b0 :: b1 :: rest =>
    match decodeEtherType (ntoh16 b0 b1) with
    | some i => .ok (i, rest)
    | none => .error (.noFrameTypeArm (ntoh16 b0 b1))
  | .ipProto8, p :: rest =>
    match decodeProto p with
    | some i => .ok (i, rest)
    | none => .error (.noProtocolArm p)
  | .ipv4HdrByte0, b0 :: rest =>
    match decodeByte0 b0 with
    | some i => .ok (i, rest)
    | none => .error (.byte0NotAccepted b0)
  | _, _ => .error (.truncated f)

/-- The format an instruction is written in. -/
def formatOf : Instr → Format
  | .etypeArp | .etypeIpv4 => .etherType16
  | .protoIcmp | .protoTcp => .ipProto8
  | .ipv4Byte0Accepted => .ipv4HdrByte0
  | .nop | .csumRx | .csumTx | .phcsum | .swap16 | .swap32 | .classify | .isBcast | .sameSubnet
  | .rxParse | .txStart | .txSend | .frameDemux | .timerSvc | .netTick | .netInit
  | .illegal10 _ | .illegal20 _ | .illegal40 _ | .illegal80 _ => .cmd8

/-- The bytes of an instruction in its format, lowest offset first (30_encoding R91, R95, R96, R99). -/
def encode : Instr → List Byte
  | .nop => [0x00#8]
  | .csumRx => [0x01#8]
  | .csumTx => [0x02#8]
  | .phcsum => [0x03#8]
  | .swap16 => [0x04#8]
  | .swap32 => [0x05#8]
  | .classify => [0x06#8]
  | .isBcast => [0x07#8]
  | .sameSubnet => [0x08#8]
  | .rxParse => [0x09#8]
  | .txStart => [0x0A#8]
  | .txSend => [0x0B#8]
  | .frameDemux => [0x0C#8]
  | .timerSvc => [0x0D#8]
  | .netTick => [0x0E#8]
  | .netInit => [0x0F#8]
  | .illegal10 code => [code]
  | .illegal20 code => [code]
  | .illegal40 code => [code]
  | .illegal80 code => [code]
  | .etypeArp => be16 Config.ethertypeArp
  | .etypeIpv4 => be16 Config.ethertypeIpv4
  | .protoIcmp => [Config.protoIcmp]
  | .protoTcp => [Config.protoTcp]
  | .ipv4Byte0Accepted => [0x45#8]

/-- The instruction an accepted decoding holds. -/
def decoded (r : Except DecodeError (Instr × List Byte)) : Option Instr :=
  match r with
  | .ok (i, _) => some i
  | .error _ => none

/-- The instruction of a table word. One byte is read as a command, two bytes as a type field: a byte alone does
not say whether it stands in CMD, at header byte 9 or at header byte 0 (log 9). -/
def decodeTableWord (nbits w : Nat) : Option Instr :=
  if nbits ≤ 8 then decoded (decode .cmd8 [BitVec.ofNat 8 w])
  else if nbits ≤ 16 then decoded (decode .etherType16 (be16 (BitVec.ofNat 16 w)))
  else none

end Sys2Proof
end

