-- ==== Sys2Proof/Machine/State.lean ====
section
/-! DEFINITION. The state of the block and of the buffers and agents it is observed with, as plain data, and its
value at reset. INVENTORY.md lists every field with its rule and its reset value. -/

namespace Sys2Proof.Machine

/-- The twelve status codes (60_exceptions R281). -/
inductive Status where
  | success
  | checksumInvalid
  | wrongVersion
  | sourceSpoofed
  | destinationMismatch
  | malformedHeader
  | optionsUnsupported
  | icmpChecksumInvalid
  | resolutionPending
  | linkError
  | txRefused
  | illegalCommand
deriving DecidableEq, Repr

/-- One collaborator call of the block, with its arguments and the answer it was given (00_scope R14). -/
inductive Event where
  /-- 45_interfaces R250. -/
  | linkEventHandler
  /-- 45_interfaces R251. -/
  | linkPacketReady (answer : Bool)
  /-- 45_interfaces R252. -/
  | linkNextPacketUpdate
  /-- 45_interfaces R253. -/
  | linkReadBlock (length : Nat) (answer : List Byte)
  /-- 45_interfaces R254. -/
  | linkDump (length : Nat)
  /-- 45_interfaces R256. -/
  | linkComputeRxChecksum (length : Nat) (seed answer : Half)
  /-- 45_interfaces R257. -/
  | linkFlush
  /-- 45_interfaces R258. -/
  | linkWriteStart (target : LinkAddr) (etherType : Half) (ok : Bool)
  /-- 45_interfaces R259. -/
  | linkWrite8 (value : Byte)
  /-- 45_interfaces R259. -/
  | linkWrite16 (value : Half)
  /-- 45_interfaces R259. -/
  | linkWrite32 (value : Word)
  /-- 45_interfaces R260. -/
  | linkInsert (bytes : List Byte) (length offset : Nat)
  /-- 45_interfaces R261. -/
  | linkComputeTxChecksum (startOffset length : Nat) (seed answer : Half)
  /-- 45_interfaces R262. -/
  | linkSend (ok : Bool)
  /-- 45_interfaces R264. -/
  | arpLookup (addr : Word) (answer : Option LinkAddr)
  /-- 45_interfaces R265; the block does not use the status that it is given (log 17). -/
  | arpRequest (addr : Word) (status : Byte)
  /-- 45_interfaces R266. -/
  | arpUpdate
  /-- 45_interfaces R267. -/
  | arpInit
  /-- 45_interfaces R268. -/
  | arpReceive
  /-- 45_interfaces R269. -/
  | tcpRecv (source : Word) (payloadLength : Nat)
  /-- 45_interfaces R270. -/
  | tcpUpdate
  /-- 45_interfaces R271. -/
  | tcpInit
  /-- 45_interfaces R272, 42_receive R185. -/
  | icmpReceive (header : Header)
  /-- 45_interfaces R278. -/
  | clockNow (answer : Word)
deriving DecidableEq, Repr

/-- A link-layer call made by an outside agent: the driver (70_reset R316, 20_memory R77) or a collaborator
during a hand-off (20_memory R76, 45_interfaces R268). -/
inductive LinkCall where
  | packetReady
  | nextPacketUpdate
  | readBlock (length : Half)
  | dump (length : Half)
  | getReadPointer
  | flush
  | writeStart (target : LinkAddr) (etherType : Half)
  | write8 (value : Byte)
  | write16 (value : Half)
  | write32 (value : Word)
  | insert (bytes : List Byte) (offset : Half)
  | send
deriving DecidableEq, Repr

/-- What an outside agent does: the block's whole input (45_interfaces R277). -/
inductive Input where
  /-- The write of register `x[reg]`; a write of CMD (register 3) runs the operation (10_state R22). Registers 0 to
  2 are the configuration collaborator's (10_state R21), the others the driver's. -/
  | writeReg (reg : Nat) (value : Word)
  /-- The read of register `x[reg]` (10_state R20). -/
  | readReg (reg : Nat)
  /-- A frame is appended to RXQ (20_memory R72). -/
  | arrive (frame : List Byte)
  /-- A link-layer call. -/
  | link (call : LinkCall)
deriving DecidableEq, Repr

/-- What an outside agent was last answered; the model's own field (log 22). -/
inductive Answer where
  | none
  /-- A register's value, zero-extended to the widest register. -/
  | value (v : BitVec 48)
  /-- The bytes of a `readBlock`. -/
  | bytes (bs : List Byte)
  /-- The read pointer. -/
  | offset (n : Nat)
  /-- The answer of `packetReady`, `writeStart` or `send`. -/
  | flag (b : Bool)
deriving DecidableEq, Repr

/-- Which registers hold a value (10_state R34, R35). The HDR_* registers hold one while HDR_VALID is 1 (R25),
TX_LINK_TARGET only inside TX_START (R27). -/
structure Held where
  op0    : Bool
  op1    : Bool
  op2    : Bool
  op3    : Bool
  res0   : Bool
  /-- TX_SRC, TX_DST, TX_PROTO and TX_START_POS, which are written together (10_state R26). -/
  tx     : Bool
  /-- ARP_TIMER and TCP_TIMER, which NET_INIT loads together (44_event_loop R239). -/
  timers : Bool
  acc    : Bool
deriving DecidableEq, Repr

/-- RX space and TX space (20_memory R62, R63), and what `link.send` handed to the medium (log 20). -/
structure Memory where
  /-- RXQ: the received frames, oldest first. -/
  rxq   : List (List Byte)
  /-- RXF: the current frame. -/
  rxf   : Option (List Byte)
  /-- RP: the read pointer into RXF. -/
  rp    : Nat
  /-- TXBUF: the outbound frame so far; WP is its length. -/
  txbuf : List Byte
  /-- The frames handed to the medium, newest last, each with the answer of its `send`. -/
  sent  : List (List Byte × Bool)
deriving DecidableEq, Repr

/-- The bytes exist up to the end of the current frame, and the read pointer lies within it (20_memory R62). -/
def Memory.wf (m : Memory) : Bool :=
  match m.rxf with
  | none => true
  | some f => decide (m.rp ≤ f.length)

/-- The byte of RX space at an offset, if it exists (20_memory R60, R62). -/
def Memory.rxByte (m : Memory) (o : Nat) : Option Byte :=
  match m.rxf with
  | none => none
  | some f => f[o]?

/-- The byte of TX space at an offset, if it exists (20_memory R60, R63). -/
def Memory.txByte (m : Memory) (o : Nat) : Option Byte := m.txbuf[o]?

/-- WP, the write pointer (20_memory R63). -/
def Memory.wp (m : Memory) : Nat := m.txbuf.length

/-- What the collaborators will answer (45_interfaces R277 (1), (3) to (6)) and do in their hand-offs (8), each in
the order of the calls. Where a list of answers ends, the answers are free values (log 5); where `arrivals` or
`handoffs` ends, nothing arrives and the collaborator does nothing (log 6, log 18). -/
structure Env where
  writeStart : List Bool
  send       : List Bool
  lookup     : List (Option LinkAddr)
  /-- The statuses that `arp.request` answers (45_interfaces R265, R277 (5)). -/
  request    : List Byte
  clock      : List Word
  /-- The frames each `link.eventHandler()` appends to RXQ (45_interfaces R250). -/
  arrivals   : List (List (List Byte))
  /-- What a collaborator does during each hand-off (20_memory R76). -/
  handoffs   : List (List Input)
deriving DecidableEq, Repr

/-- The machine. -/
structure State where
  cfgAddr      : Word
  cfgMask      : Word
  cfgGw        : Word
  cmd          : Byte
  op0          : Word
  op1          : Word
  op2          : Word
  op3          : Word
  res0         : Word
  status       : Byte
  hdr          : Header
  hdrValid     : Bool
  txSrc        : Word
  txDst        : Word
  txProto      : Byte
  txActive     : Bool
  txStartPos   : Half
  txLinkTarget : LinkAddr
  arpTimer     : Word
  tcpTimer     : Word
  csumAcc      : Word
  held         : Held
  mem          : Memory
  /-- The calls the block made, oldest first (00_scope R14). -/
  trace        : List Event
  answer       : Answer
  /-- What the outside agents do next, first first. -/
  inputs       : List Input
  env          : Env
  /-- How many free values have been drawn (log 5). -/
  free         : Nat
deriving DecidableEq, Repr

/-- Nothing halts the block (00_scope R13, 60_exceptions R280): there is no fault. -/
inductive Fault where
deriving DecidableEq, Repr

/-- The situations to which the spec gives no meaning (00_scope R12 `refuse`, 93_implementation_defined.md). All
are safe: the model says nothing where the block may go on. -/
inductive Refusal where
  /-- Raised by an arm of `exec` whose instruction has no meaning yet. Safe. -/
  | notModelled (mnemonic : String)
  /-- 93 U1: RX_PARSE step 9 with a total length below the header length. Safe. -/
  | totalLengthBelowHeader
  /-- 93 U3: a receive-side link call with no current frame. Safe. -/
  | rxNoFrame
  /-- 93 U3: a receive-side link call whose range passes the end of the current frame. Safe. -/
  | rxOutOfRange
  /-- 93 U4: an `insert` or `computeTxChecksum` whose range passes the write pointer. Safe. -/
  | txOutOfRange
  /-- 93 U5: TX_SEND with TX_ACTIVE = 0. Safe. -/
  | sendWithoutStart
  /-- 93 U6: TX_SEND with a payload length above 65515. Safe. -/
  | payloadTooLong
  /-- 93 U8, U10 (10_state R35, 70_reset R311, 92 D23): the register is read while it holds no value; the spec's own
  "refuse". Safe. -/
  | registerHoldsNoValue (reg : Nat)
  /-- 93 U9: RX_PARSE, FRAME_DEMUX, NET_TICK or NET_INIT started from inside a hand-off. Safe. -/
  | nestedReceive
  /-- 93 U12: a register number that does not exist. Safe. -/
  | noSuchRegister (reg : Nat)
  /-- 93 U12: an outside write to a register that the block owns. Safe. -/
  | blockOwnedRegister (reg : Nat)
  /-- 93 U17: a configuration register written while an operation runs. Safe. -/
  | configDuringOperation
  /-- 20_memory R60, log 21: a value wider than the register it is written to. Safe. -/
  | valueTooWide (reg : Nat)
  /-- 45_interfaces R252: an outside agent's `nextPacketUpdate` with no frame queued. Safe. -/
  | rxQueueEmpty
deriving DecidableEq, Repr

/-- No register holds a value (10_state R34). -/
def Held.none : Held := ⟨false, false, false, false, false, false, false, false⟩

/-- No answer is listed. -/
def Env.empty : Env := ⟨[], [], [], [], [], [], []⟩

/-- What a header register that holds no value contains at reset (log 1). -/
def zeroHeader : Header :=
  ⟨0#4, 0#4, 0#8, 0#16, 0#16, 0#16, 0#8, 0#8, 0#16, 0#32, 0#32⟩

/-- The state after reset (10_state R34, 70_reset R310): CMD, STATUS, HDR_VALID and TX_ACTIVE are 0 and no other
register of the block holds a value; the zeros standing in those registers are the model's (log 1, log 2, log 3). -/
def State.reset : State where
  cfgAddr := 0#32
  cfgMask := 0#32
  cfgGw := 0#32
  cmd := 0x00#8
  op0 := 0#32
  op1 := 0#32
  op2 := 0#32
  op3 := 0#32
  res0 := 0#32
  status := 0x00#8
  hdr := zeroHeader
  hdrValid := false
  txSrc := 0#32
  txDst := 0#32
  txProto := 0#8
  txActive := false
  txStartPos := 0#16
  txLinkTarget := 0#Config.linkAddrWidth
  arpTimer := 0#32
  tcpTimer := 0#32
  csumAcc := 0#32
  held := Held.none
  mem := ⟨[], .none, 0, [], []⟩
  trace := []
  answer := .none
  inputs := []
  env := Env.empty
  free := 0

end Sys2Proof.Machine
end

