-- ==== Sys2Proof/Machine/Ops.lean ====
section
/-! DEFINITION. The shared operations: sequencing of outcomes, the writes of each register, ending an operation with a
status (the block's only "exception"), the event trace, and the answers of the collaborators. -/

namespace Sys2Proof.Machine

/-- The outcome of a piece of an operation. -/
abbrev Result (α : Type) := Host.Outcome α Fault Refusal

/-- What follows runs only if what came before gave a result (00_scope R13: a refusal gives none at all). -/
def andThen {α β : Type} (o : Result α) (k : α → Result β) : Result β :=
  match o with
  | .next a => k a
  | .fault f => .fault f
  | .refused r => .refused r

/-! ### Register writes -/

/-- The numbers of the status codes (60_exceptions R281). -/
def statusCode : Status → Byte
  | .success => 0x00#8
  | .checksumInvalid => 0x01#8
  | .wrongVersion => 0x02#8
  | .sourceSpoofed => 0x03#8
  | .destinationMismatch => 0x04#8
  | .malformedHeader => 0x05#8
  | .optionsUnsupported => 0x06#8
  | .icmpChecksumInvalid => 0x07#8
  | .resolutionPending => 0x08#8
  | .linkError => 0x09#8
  | .txRefused => 0x0A#8
  | .illegalCommand => 0x0B#8

/-- The write of STATUS (10_state R22). -/
def setStatus (st : Status) (s : State) : State := { s with status := statusCode st }

/-- The write of RES0, which holds a value from then on (10_state R22, R34). -/
def setRes0 (v : Word) (s : State) : State :=
  { s with res0 := v, held := { s.held with res0 := true } }

/-- The write of CSUM_ACC with a sum (10_state R29). -/
def setAcc (a : Nat) (s : State) : State :=
  { s with csumAcc := BitVec.ofNat 32 a, held := { s.held with acc := true } }

/-- The write of CMD (10_state R22). -/
def setCmd (c : Byte) (s : State) : State := { s with cmd := c }

/-- The write of ARP_TIMER (10_state R28). -/
def setArpTimer (t : Word) (s : State) : State := { s with arpTimer := t }

/-- The write of TCP_TIMER (10_state R28). -/
def setTcpTimer (t : Word) (s : State) : State := { s with tcpTimer := t }

/-- NET_INIT's write of both timers, which hold a value from then on (44_event_loop R239). -/
def loadTimers (t : Word) (s : State) : State :=
  { s with arpTimer := t, tcpTimer := t, held := { s.held with timers := true } }

/-- What TX_START records on success (43_transmit R206). -/
def recordTx (src dst : Word) (protocol : Byte) (s : State) : State :=
  { s with
    txSrc := src, txDst := dst, txProto := protocol,
    txStartPos := BitVec.ofNat 16 Config.linkHdrLen,
    held := { s.held with tx := true } }

/-- The write of the two buffers. -/
def setMem (m : Memory) (s : State) : State := { s with mem := m }

/-- What an outside agent is answered. -/
def setAnswer (a : Answer) (s : State) : State := { s with answer := a }

/-- The agents' next actions. -/
def setInputs (l : List Input) (s : State) : State := { s with inputs := l }

/-- The pending answers. -/
def setEnv (e : Env) (s : State) : State := { s with env := e }

/-- One more free value has been drawn (log 5). -/
def countFree (s : State) : State := { s with free := s.free + 1 }

/-- One collaborator call is appended to the event trace (00_scope R12, R14; 45_interfaces R276). -/
def logEvent (e : Event) (s : State) : State := { s with trace := s.trace ++ [e] }

/-! ### Ending an operation -/

/-- `raise` and `return` of 00_scope R12: the operation ends with its code in STATUS and control goes back to whoever
started it. Nothing is saved, no mode changes, there is no handler (60_exceptions R280, R298). -/
def raiseStatus (st : Status) (s : State) : Result State := .next (setStatus st s)

/-- The end of an operation that has a result and returns SUCCESS (30_encoding R100). -/
def finishWith (v : Word) (s : State) : Result State := raiseStatus .success (setRes0 v s)

/-! ### Answers of the collaborators (45_interfaces R277) -/

/-- The next clock value: a free input (45_interfaces R278). -/
def drawClock (s : State) : Word × State :=
  match s.env.clock with
  | v :: rest => (v, setEnv { s.env with clock := rest } s)
  | [] => (Config.freeClock s.free, countFree s)

/-- Whether the next `link.writeStart` answers ok: a free input (45_interfaces R258). -/
def drawWriteStart (s : State) : Bool × State :=
  match s.env.writeStart with
  | v :: rest => (v, setEnv { s.env with writeStart := rest } s)
  | [] => (Config.freeWriteStart s.free, countFree s)

/-- Whether the next `link.send` answers ok: a free input (45_interfaces R262). -/
def drawSend (s : State) : Bool × State :=
  match s.env.send with
  | v :: rest => (v, setEnv { s.env with send := rest } s)
  | [] => (Config.freeSend s.free, countFree s)

/-- What the next `arp.lookup` answers: a free input (45_interfaces R264). -/
def drawLookup (s : State) : Option LinkAddr × State :=
  match s.env.lookup with
  | v :: rest => (v, setEnv { s.env with lookup := rest } s)
  | [] => (Config.freeLookup s.free, countFree s)

/-- The status that the next `arp.request` answers: a free input (45_interfaces R265, R277 (5)). -/
def drawRequest (s : State) : Byte × State :=
  match s.env.request with
  | v :: rest => (v, setEnv { s.env with request := rest } s)
  | [] => (Config.freeRequest s.free, countFree s)

/-- The frames the next `link.eventHandler()` appends to RXQ (45_interfaces R250). -/
def drawArrivals (s : State) : List (List Byte) × State :=
  match s.env.arrivals with
  | fs :: rest => (fs, setEnv { s.env with arrivals := rest } s)
  | [] => ([], s)

end Sys2Proof.Machine
end

