-- ==== Sys2Proof/Machine/Operands.lean ====
section
/-! DEFINITION. The operand registers and their forms (30_encoding R100, R108). -/

namespace Sys2Proof.Machine

/-- A register's value, if it holds one. Where it holds none, the spec itself says that the model refuses and must not
substitute zero (10_state R35, 44_event_loop R235, 70_reset R311, 92 D23, 93 U8, U10). -/
def readHeld {α : Type} (held : Bool) (reg : Nat) (v : α) : Result α :=
  if held then .next v else .refused (.registerHoldsNoValue reg)

/-- `x[OP0]`. -/
def operand0 (s : State) : Result Word := readHeld s.held.op0 4 s.op0
/-- `x[OP1]`. -/
def operand1 (s : State) : Result Word := readHeld s.held.op1 5 s.op1
/-- `x[OP2]`. -/
def operand2 (s : State) : Result Word := readHeld s.held.op2 6 s.op2
/-- `x[OP3]`. -/
def operand3 (s : State) : Result Word := readHeld s.held.op3 7 s.op3

/-- `OPn[15:0]`: the bits above are ignored (30_encoding R100, 93 U14). -/
def low16 (v : Word) : Half := v.extractLsb' 0 16

/-- `OPn[7:0]`: the bits above are ignored (30_encoding R100, 93 U14). -/
def low8 (v : Word) : Byte := v.extractLsb' 0 8

/-- `zext_32` of a 16-bit result (00_scope R10). -/
def zext32 (v : Half) : Word := v.setWidth 32

/-- `zext_32` of a truth value: 1 or 0 (30_encoding R100). -/
def boolWord (b : Bool) : Word := if b then 1#32 else 0#32

/-- The RES0 of the event-loop operations: type field in bits 31:16, then tcpFired, arpFired and taken in bits 2, 1, 0
(30_encoding R100). -/
def loopResult (etherType : Half) (tcpFired arpFired taken : Bool) : Word :=
  etherType ++ 0#13 ++ BitVec.ofBool tcpFired ++ BitVec.ofBool arpFired ++ BitVec.ofBool taken

/-- `headerLength`: ihl * 4 bytes (30_encoding R108). -/
def headerLength (h : Header) : Nat := h.ihl.toNat * 4

end Sys2Proof.Machine
end

