-- ==== Sys2Proof/Machine/Arith.lean ====
section
/-! DEFINITION. The arithmetic of the Checksum Engine (40_checksum R130 to R132, R135 to R137). Sums are exact; the
32-bit accumulator never wraps on a range the interface can express (40_checksum R138, log 25). -/

namespace Sys2Proof.Machine

/-- One pass of the end-around carry: `sum = (sum & 0xFFFF) + (sum >> 16)`, unless no carry remains (40_checksum R130). -/
def foldPass (a : Nat) : Nat := if a >>> 16 = 0 then a else (a &&& 0xFFFF) + (a >>> 16)

/-- `fold`, for a below 2^32: the loop body runs at most twice (40_checksum R130). -/
def fold (a : Nat) : Nat := foldPass (foldPass a)

/-- The sum of a range's 16-bit words: pairs of bytes from the start of the range, the first byte the high half, an odd
last byte padded with a zero byte after it (40_checksum R131). -/
def wordSum : List Byte → Nat
  | [] => 0
  | [b] => b.toNat * 256
  | b0 :: b1 :: rest => b0.toNat * 256 + b1.toNat + wordSum rest

/-- `accumulate(s, seed)` (40_checksum R131). -/
def accumulate (bytes : List Byte) (seed : Half) : Nat := seed.toNat + wordSum bytes

/-- The folded sum of a range: what CSUM_ACC holds afterwards (40_checksum R133). -/
def foldedSum (bytes : List Byte) (seed : Half) : Nat := fold (accumulate bytes seed)

/-- `csum(s, seed)`: the one's complement of the folded sum (40_checksum R132). -/
def csum (bytes : List Byte) (seed : Half) : Half := ~~~ (BitVec.ofNat 16 (foldedSum bytes seed))

/-- The folded sum of the pseudo-header, not complemented, as a number (40_checksum R135). -/
def phFoldedSum (protocol : Byte) (payloadLength : Half) (src dst : Word) : Nat :=
  foldedSum (pseudoHeader protocol payloadLength src dst) 0#16

/-- `phsum`: the seed of a transport checksum (40_checksum R135). -/
def phsum (protocol : Byte) (payloadLength : Half) (src dst : Word) : Half :=
  BitVec.ofNat 16 (phFoldedSum protocol payloadLength src dst)

/-- `{v[7:0], v[15:8]}` (40_checksum R136). -/
def swapBytes16 (v : Half) : Half := v.extractLsb' 0 8 ++ v.extractLsb' 8 8

/-- `{v[7:0], v[15:8], v[23:16], v[31:24]}` (40_checksum R137). -/
def swapBytes32 (v : Word) : Word :=
  v.extractLsb' 0 8 ++ v.extractLsb' 8 8 ++ v.extractLsb' 16 8 ++ v.extractLsb' 24 8

end Sys2Proof.Machine
end

