-- ==== Sys2Proof/Machine/Flags.lean ====
section
/-! DEFINITION. The block's two one-bit flags (10_state R31). There are no condition codes. -/

namespace Sys2Proof.Machine

/-- The write of TX_ACTIVE (10_state R26, R31). -/
def setTxActive (b : Bool) (s : State) : State := { s with txActive := b }

/-- Step 2 of RX_PARSE loads the eleven HDR_* registers and sets HDR_VALID (10_state R25, 42_receive R172). -/
def openHeader (h : Header) (s : State) : State := { s with hdr := h, hdrValid := true }

/-- HDR_VALID is cleared: by every exit of RX_PARSE and by NET_INIT (10_state R25, R31). HDR_* registers that held a
header hold no value from then on: what they contain is a free value (93 U8, log 4). -/
def closeHeader (s : State) : State :=
  if s.hdrValid then { s with hdr := Config.freeHeader s.free, hdrValid := false, free := s.free + 1 } else s

/-- The write of TX_LINK_TARGET (10_state R27). -/
def setLinkTarget (t : LinkAddr) (s : State) : State := { s with txLinkTarget := t }

/-- TX_LINK_TARGET holds no value once TX_START has returned: what it contains is a free value (93 U8, log 4). -/
def releaseLinkTarget (s : State) : State :=
  { s with txLinkTarget := Config.freeLinkTarget s.free, free := s.free + 1 }

end Sys2Proof.Machine
end

