-- ==== Sys2Proof/Machine/Link.lean ====
section
/-! DEFINITION. The link layer's two buffers: what each call does to them (20_memory R62, R63; 45_interfaces R250 to
R262), and the calls as the block makes them, each with its event. -/

namespace Sys2Proof.Machine

/-! ### Effects on the buffers -/

/-- The `n` bytes at the read pointer; out of range there is no meaning (20_memory R62, R74). -/
def rxRange (n : Nat) (m : Memory) : Result (List Byte) :=
  match m.rxf with
  | none => .refused .rxNoFrame
  | some f => if m.rp + n ≤ f.length then .next ((f.drop m.rp).take n) else .refused .rxOutOfRange

/-- The `n` bytes at offset `o` of TX space; out of range there is no meaning (20_memory R63, R74). -/
def txRange (o n : Nat) (m : Memory) : Result (List Byte) :=
  if o + n ≤ m.wp then .next ((m.txbuf.drop o).take n) else .refused .txOutOfRange

/-- A frame is appended to RXQ (20_memory R62, R72). That the queue has no depth, so that no frame is ever lost to an
overflow (70_reset R318, 91 N41), is the model's choice (DESIGN CHOICE, log 31). -/
def enqueue (f : List Byte) (m : Memory) : Memory := { m with rxq := m.rxq ++ [f] }

/-- The head of RXQ becomes the current frame and RP its first byte (45_interfaces R252). -/
def takeFrame (f : List Byte) (rest : List (List Byte)) (m : Memory) : Memory :=
  { m with rxq := rest, rxf := some f, rp := 0 }

/-- RP moves past `n` bytes (45_interfaces R253, R254). -/
def advance (n : Nat) (m : Memory) : Memory := { m with rp := m.rp + n }

/-- The current frame is released (45_interfaces R257); with no current frame nothing changes, which is the model's
choice (DESIGN CHOICE, log 30). -/
def releaseFrame (m : Memory) : Memory := { m with rxf := none }

/-- A new outbound frame begins with its link header (20_memory R63). -/
def beginFrame (target : LinkAddr) (other : Nat → Byte) (etherType : Half) (m : Memory) : Memory :=
  { m with txbuf := linkHeader target other etherType }

/-- Bytes are appended at WP (45_interfaces R259). -/
def appendBytes (bs : List Byte) (m : Memory) : Memory := { m with txbuf := m.txbuf ++ bs }

/-- Bytes of TX space are overwritten (45_interfaces R260). -/
def overwrite (bs : List Byte) (o : Nat) (m : Memory) : Memory :=
  { m with txbuf := m.txbuf.take o ++ bs ++ m.txbuf.drop (o + bs.length) }

/-- TX space has no meaning until the next `writeStart`: its content is a free value (45_interfaces R258, R262,
93 U15, log 12). -/
def loseTxSpace (s : State) : State :=
  countFree (setMem { s.mem with txbuf := Config.freeTxSpace s.free } s)

/-- `link.writeStart` (45_interfaces R258): on ok a new outbound frame, on fail TX space without meaning. -/
def writeStart (target : LinkAddr) (etherType : Half) (s : State) : Bool × State :=
  let d := drawWriteStart s
  if d.1 then
    (true, countFree (setMem (beginFrame target (Config.freeLinkByte d.2.free) etherType d.2.mem) d.2))
  else (false, loseTxSpace d.2)

/-- `link.insert` (45_interfaces R260); out of range there is no meaning (20_memory R74). -/
def insertBytes (bs : List Byte) (o : Nat) (s : State) : Result State :=
  if o + bs.length ≤ s.mem.wp then .next (setMem (overwrite bs o s.mem) s) else .refused .txOutOfRange

/-- `link.send` (45_interfaces R262): TXBUF goes to the medium, and TX space has no meaning afterwards. -/
def sendFrame (s : State) : Bool × State :=
  let d := drawSend s
  (d.1, loseTxSpace (setMem { d.2.mem with sent := d.2.mem.sent ++ [(d.2.mem.txbuf, d.1)] } d.2))

/-! ### The calls as the block makes them -/

/-- `call link.readBlock(n)` (45_interfaces R253). -/
def callReadBlock (n : Nat) (s : State) : Result (List Byte × State) :=
  andThen (rxRange n s.mem) fun bs =>
    .next (bs, logEvent (.linkReadBlock n bs) (setMem (advance n s.mem) s))

/-- `call link.dump(n)` (45_interfaces R254). -/
def callDump (n : Nat) (s : State) : Result State :=
  andThen (rxRange n s.mem) fun _ => .next (logEvent (.linkDump n) (setMem (advance n s.mem) s))

/-- `call link.computeRxChecksum(n, seed)`: a peek, which leaves the folded sum in CSUM_ACC (45_interfaces R256,
10_state R29). -/
def callRxChecksum (n : Nat) (seed : Half) (s : State) : Result (Half × State) :=
  andThen (rxRange n s.mem) fun bs =>
    .next (csum bs seed, logEvent (.linkComputeRxChecksum n seed (csum bs seed)) (setAcc (foldedSum bs seed) s))

/-- `call link.computeTxChecksum(o, n, seed)` (45_interfaces R261). -/
def callTxChecksum (o n : Nat) (seed : Half) (s : State) : Result (Half × State) :=
  andThen (txRange o n s.mem) fun bs =>
    .next (csum bs seed, logEvent (.linkComputeTxChecksum o n seed (csum bs seed)) (setAcc (foldedSum bs seed) s))

/-- `call link.flush()` (45_interfaces R257); log 30 where a collaborator has released the frame already. -/
def callFlush (s : State) : State := logEvent .linkFlush (setMem (releaseFrame s.mem) s)

/-- `call link.writeStart(target, etherType)` (45_interfaces R258). -/
def callWriteStart (target : LinkAddr) (etherType : Half) (s : State) : Bool × State :=
  let w := writeStart target etherType s
  (w.1, logEvent (.linkWriteStart target etherType w.1) w.2)

/-- `call link.write8(v)` (45_interfaces R259). -/
def callWrite8 (v : Byte) (s : State) : State := logEvent (.linkWrite8 v) (setMem (appendBytes [v] s.mem) s)

/-- `call link.write16(v)` (45_interfaces R259). -/
def callWrite16 (v : Half) (s : State) : State := logEvent (.linkWrite16 v) (setMem (appendBytes (be16 v) s.mem) s)

/-- `call link.write32(v)` (45_interfaces R259). -/
def callWrite32 (v : Word) (s : State) : State := logEvent (.linkWrite32 v) (setMem (appendBytes (be32 v) s.mem) s)

/-- `call link.insert(bs, len(bs), o)` (45_interfaces R260). -/
def callInsert (bs : List Byte) (o : Nat) (s : State) : Result State :=
  andThen (insertBytes bs o s) fun t => .next (logEvent (.linkInsert bs bs.length o) t)

/-- `call link.send()` (45_interfaces R262). -/
def callSend (s : State) : Bool × State :=
  let w := sendFrame s
  (w.1, logEvent (.linkSend w.1) w.2)

/-- `call link.eventHandler()`: frames may arrive (45_interfaces R250), any number of them (log 31). -/
def callEventHandler (s : State) : State :=
  let d := drawArrivals (logEvent .linkEventHandler s)
  setMem { d.2.mem with rxq := d.2.mem.rxq ++ d.1 } d.2

/-- `call clock.now()`: one untorn value (45_interfaces R278). -/
def callClock (s : State) : Word × State :=
  let d := drawClock s
  (d.1, logEvent (.clockNow d.1) d.2)

/-- `call arp.lookup(a)` (45_interfaces R264). -/
def callLookup (a : Word) (s : State) : Option LinkAddr × State :=
  let d := drawLookup s
  (d.1, logEvent (.arpLookup a d.1) d.2)

/-- `call arp.request(a)` (45_interfaces R265). -/
def callRequest (a : Word) (s : State) : Byte × State :=
  let d := drawRequest s
  (d.1, logEvent (.arpRequest a d.1) d.2)

end Sys2Proof.Machine
end

