-- ==== Sys2Proof/Machine/Checksum.lean ====
section
/-! DEFINITION. The operations of the Checksum Engine (40_checksum R133 to R137). -/

namespace Sys2Proof.Machine

/-- CSUM_RX (40_checksum R133). -/
def execCsumRx (s : State) : Result State :=
  andThen (operand0 s) fun length =>
  andThen (operand1 s) fun seed =>
  andThen (callRxChecksum (low16 length).toNat (low16 seed) s) fun r => finishWith (zext32 r.1) r.2

/-- CSUM_TX (40_checksum R134). -/
def execCsumTx (s : State) : Result State :=
  andThen (operand0 s) fun startOffset =>
  andThen (operand1 s) fun length =>
  andThen (operand2 s) fun seed =>
  andThen (callTxChecksum (low16 startOffset).toNat (low16 length).toNat (low16 seed) s) fun r =>
    finishWith (zext32 r.1) r.2

/-- PHCSUM (40_checksum R135): no buffer, no call. -/
def execPhcsum (s : State) : Result State :=
  andThen (operand0 s) fun protocol =>
  andThen (operand1 s) fun payloadLength =>
  andThen (operand2 s) fun src =>
  andThen (operand3 s) fun dst =>
    finishWith (zext32 (phsum (low8 protocol) (low16 payloadLength) src dst))
      (setAcc (phFoldedSum (low8 protocol) (low16 payloadLength) src dst) s)

/-- SWAP16 (40_checksum R136). -/
def execSwap16 (s : State) : Result State :=
  andThen (operand0 s) fun v => finishWith (zext32 (swapBytes16 (low16 v))) s

/-- SWAP32 (40_checksum R137). -/
def execSwap32 (s : State) : Result State :=
  andThen (operand0 s) fun v => finishWith (swapBytes32 v) s

end Sys2Proof.Machine
end

