-- ==== Sys2Proof/Machine/Outside.lean ====
section
/-! DEFINITION. What outside agents do to the block and its buffers, other than starting an operation: register
accesses (10_state R20 to R22, 93 U8, U12), arriving frames (20_memory R72) and link-layer calls (R76, R77). -/

namespace Sys2Proof.Machine

/-- A register's value as a bus answer. -/
def asAnswer {w : Nat} (v : BitVec w) : BitVec 48 := v.setWidth 48

/-- The read of `x[reg]` by an outside agent (10_state R20); a register that holds no value is not read (R25, R27, R35,
93 U8), a register that does not exist has no meaning (93 U12). -/
def readRegister (reg : Nat) (s : State) : Result (BitVec 48) :=
  match reg with
  | 0 => .next (asAnswer s.cfgAddr)
  | 1 => .next (asAnswer s.cfgMask)
  | 2 => .next (asAnswer s.cfgGw)
  | 3 => .next (asAnswer s.cmd)
  | 4 => readHeld s.held.op0 4 (asAnswer s.op0)
  | 5 => readHeld s.held.op1 5 (asAnswer s.op1)
  | 6 => readHeld s.held.op2 6 (asAnswer s.op2)
  | 7 => readHeld s.held.op3 7 (asAnswer s.op3)
  | 8 => readHeld s.held.res0 8 (asAnswer s.res0)
  | 9 => .next (asAnswer s.status)
  | 16 => readHeld s.hdrValid 16 (asAnswer s.hdr.version)
  | 17 => readHeld s.hdrValid 17 (asAnswer s.hdr.ihl)
  | 18 => readHeld s.hdrValid 18 (asAnswer s.hdr.tos)
  | 19 => readHeld s.hdrValid 19 (asAnswer s.hdr.len)
  | 20 => readHeld s.hdrValid 20 (asAnswer s.hdr.ident)
  | 21 => readHeld s.hdrValid 21 (asAnswer s.hdr.flagsFrag)
  | 22 => readHeld s.hdrValid 22 (asAnswer s.hdr.ttl)
  | 23 => readHeld s.hdrValid 23 (asAnswer s.hdr.proto)
  | 24 => readHeld s.hdrValid 24 (asAnswer s.hdr.csum)
  | 25 => readHeld s.hdrValid 25 (asAnswer s.hdr.src)
  | 26 => readHeld s.hdrValid 26 (asAnswer s.hdr.dst)
  | 27 => .next (asAnswer (BitVec.ofBool s.hdrValid))
  | 32 => readHeld s.held.tx 32 (asAnswer s.txSrc)
  | 33 => readHeld s.held.tx 33 (asAnswer s.txDst)
  | 34 => readHeld s.held.tx 34 (asAnswer s.txProto)
  | 35 => .next (asAnswer (BitVec.ofBool s.txActive))
  | 36 => readHeld s.held.tx 36 (asAnswer s.txStartPos)
  | 37 => readHeld false 37 (asAnswer s.txLinkTarget)
  | 40 => readHeld s.held.timers 40 (asAnswer s.arpTimer)
  | 41 => readHeld s.held.timers 41 (asAnswer s.tcpTimer)
  | 48 => readHeld s.held.acc 48 (asAnswer s.csumAcc)
  | n => .refused (.noSuchRegister n)

/-- The registers that only the block writes (10_state R20). -/
def blockOwned (reg : Nat) : Bool :=
  reg == 8 || reg == 9 || (16 ≤ reg && reg ≤ 27) || (32 ≤ reg && reg ≤ 37) || reg == 40 || reg == 41 || reg == 48

/-- The write of `x[reg]` by an outside agent, a write of CMD that starts an operation apart (10_state R20 to R22, 93 U12).
Writing an operand register makes it hold a value. -/
def writeRegister (reg : Nat) (v : Word) (s : State) : Result State :=
  match reg with
  | 0 => .next { s with cfgAddr := v }
  | 1 => .next { s with cfgMask := v }
  | 2 => .next { s with cfgGw := v }
  | 3 => .refused (.valueTooWide 3)
  | 4 => .next { s with op0 := v, held := { s.held with op0 := true } }
  | 5 => .next { s with op1 := v, held := { s.held with op1 := true } }
  | 6 => .next { s with op2 := v, held := { s.held with op2 := true } }
  | 7 => .next { s with op3 := v, held := { s.held with op3 := true } }
  | n => if blockOwned n then .refused (.blockOwnedRegister n) else .refused (.noSuchRegister n)

/-- The command byte, if the input is a write of CMD (register 3, 8 bits wide: 10_state R20, R22, log 21). -/
def commandOf : Input → Option Byte
  | .writeReg 3 v => if v.toNat < 256 then some (v.setWidth 8) else none
  | _ => none

/-- A link-layer call of an outside agent (45_interfaces R251 to R262, 70_reset R316). A `flush` with no current frame
changes nothing, which is the model's choice (DESIGN CHOICE, log 30). -/
def outsideLink (c : LinkCall) (s : State) : Result State :=
  match c with
  | .packetReady => .next (setAnswer (.flag (!s.mem.rxq.isEmpty)) s)
  | .nextPacketUpdate =>
    match s.mem.rxq with
    | [] => .refused .rxQueueEmpty
    | f :: rest => .next (setMem (takeFrame f rest s.mem) s)
  | .readBlock n =>
    andThen (rxRange n.toNat s.mem) fun bs => .next (setAnswer (.bytes bs) (setMem (advance n.toNat s.mem) s))
  | .dump n => andThen (rxRange n.toNat s.mem) fun _ => .next (setMem (advance n.toNat s.mem) s)
  | .getReadPointer => andThen (rxRange 0 s.mem) fun _ => .next (setAnswer (.offset s.mem.rp) s)
  | .flush => .next (setMem (releaseFrame s.mem) s)
  | .writeStart target etherType =>
    let w := writeStart target etherType s
    .next (setAnswer (.flag w.1) w.2)
  | .write8 v => .next (setMem (appendBytes [v] s.mem) s)
  | .write16 v => .next (setMem (appendBytes (be16 v) s.mem) s)
  | .write32 v => .next (setMem (appendBytes (be32 v) s.mem) s)
  | .insert bs o => insertBytes bs o.toNat s
  | .send =>
    let w := sendFrame s
    .next (setAnswer (.flag w.1) w.2)

/-- An outside agent's action that starts no operation. -/
def outsideInput (a : Input) (s : State) : Result State :=
  match a with
  | .writeReg reg v => writeRegister reg v s
  | .readReg reg => andThen (readRegister reg s) fun v => .next (setAnswer (.value v) s)
  | .arrive f => .next (setMem (enqueue f s.mem) s)
  | .link c => outsideLink c s

/-- Whether the input is a configuration write (10_state R21). -/
def isConfigWrite : Input → Bool
  | .writeReg reg _ => reg ≤ 2
  | _ => false

end Sys2Proof.Machine
end

