-- ==== Sys2Proof/Machine/Plain.lean ====
section
/-! DEFINITION. NOP and the illegal commands (30_encoding R101, 60_exceptions R294). -/

namespace Sys2Proof.Machine

/-- NOP changes no register, not even STATUS (30_encoding R101). -/
def execNop (s : State) : Result State := .next s

/-- Codes 0x10 to 0x1F: STATUS <- ILLEGAL_COMMAND, nothing else (60_exceptions R294). -/
def execIllegal10 (_code : Byte) (s : State) : Result State := raiseStatus .illegalCommand s

/-- Codes 0x20 to 0x3F: STATUS <- ILLEGAL_COMMAND, nothing else (60_exceptions R294). -/
def execIllegal20 (_code : Byte) (s : State) : Result State := raiseStatus .illegalCommand s

/-- Codes 0x40 to 0x7F: STATUS <- ILLEGAL_COMMAND, nothing else (60_exceptions R294). -/
def execIllegal40 (_code : Byte) (s : State) : Result State := raiseStatus .illegalCommand s

/-- Codes 0x80 to 0xFF: STATUS <- ILLEGAL_COMMAND, nothing else (60_exceptions R294). -/
def execIllegal80 (_code : Byte) (s : State) : Result State := raiseStatus .illegalCommand s

end Sys2Proof.Machine
end

