-- ==== Sys2Proof/Machine/Timer.lean ====
section
/-! DEFINITION. The timer service (44_event_loop R235 to R238), for any behaviour `h` of the two collaborators it calls. -/

namespace Sys2Proof.Machine

/-- The state a timer service leaves and which of its arms fired. -/
structure TimerResult where
  state : State
  arp   : Bool
  tcp   : Bool

/-- Whether an interval has passed, modulo 2^32 (44_event_loop R235, R238). -/
def intervalPassed (now snapshot interval : Word) : Bool := interval ≤ now - snapshot

/-- Neighbor-resolution maintenance, when due; the snapshot becomes `now` (44_event_loop R236). -/
def arpMaintenance (h : State → Result State) (now : Word) (s : State) : Result (State × Bool) :=
  if intervalPassed now s.arpTimer Config.arpInterval then
    andThen (h (logEvent .arpUpdate s)) fun t => .next (setArpTimer now t, true)
  else .next (s, false)

/-- Transport timeout processing, when due; the snapshot becomes `now` (44_event_loop R237). -/
def tcpMaintenance (h : State → Result State) (now : Word) (s : State) : Result (State × Bool) :=
  if intervalPassed now s.tcpTimer Config.tcpInterval then
    andThen (h (logEvent .tcpUpdate s)) fun t => .next (setTcpTimer now t, true)
  else .next (s, false)

/-- The TIMER_SVC body (44_event_loop R235): one clock snapshot, both arms evaluated; refused before NET_INIT. -/
def timerBody (h : State → Result State) (s : State) : Result TimerResult :=
  andThen (readHeld s.held.timers 40 ()) fun _ =>
    let c := callClock s
    andThen (arpMaintenance h c.1 c.2) fun a =>
    andThen (tcpMaintenance h c.1 a.1) fun t => .next ⟨t.1, a.2, t.2⟩

/-- TIMER_SVC with its result and status (44_event_loop R235). -/
def timerService (h : State → Result State) (s : State) : Result State :=
  andThen (timerBody h s) fun r => finishWith (loopResult 0#16 r.tcp r.arp false) r.state

end Sys2Proof.Machine
end

