-- ==== Sys2Proof/Machine/Classifier.lean ====
section
/-! DEFINITION. The Address Classifier: its functions (41_classifier R150 to R152, R155) and operations (R153 to R155). -/

namespace Sys2Proof.Machine

/-- The directed broadcast of one class-sized network that contains `host` (41_classifier R150). -/
def isClassBcast (netmask a host : Word) : Bool :=
  (a ||| netmask == 0xFFFFFFFF#32) && (host ||| ~~~ netmask == a)

/-- `is_directed_bcast(a, host)`: all three classes, always (41_classifier R150, 90_conflicts C7, C11). -/
def isDirectedBcast (a host : Word) : Bool :=
  isClassBcast Config.netmaskA a host || isClassBcast Config.netmaskB a host || isClassBcast Config.netmaskC a host

/-- `is_bcast(a, host)` (41_classifier R151). -/
def isBcast (a host : Word) : Bool := a == Config.addrLimitedBcast || isDirectedBcast a host

/-- `classify(dst, host, mask)`: precedence is significant, and the mask is not read (41_classifier R152). -/
def classify (dst host : Word) : AddrClass :=
  if dst = host then .unicast
  else if dst = Config.addrUnspecified then .unspecified
  else if isBcast dst host then .broadcast
  else if dst = Config.addrAllHosts then .multicast
  else .notForUs

/-- The class codes (30_encoding R103). -/
def classCode : AddrClass → Word
  | .unicast => 0#32
  | .unspecified => 1#32
  | .broadcast => 2#32
  | .multicast => 3#32
  | .notForUs => 4#32

/-- `same_subnet(dest, host, mask)` (41_classifier R155). -/
def sameSubnet (dest host mask : Word) : Bool := (dest ^^^ host) &&& mask == 0#32

/-- CLASSIFY (41_classifier R153); OP2 is read and ignored. -/
def execClassify (s : State) : Result State :=
  andThen (operand0 s) fun dst =>
  andThen (operand1 s) fun host =>
  andThen (operand2 s) fun _ => finishWith (classCode (classify dst host)) s

/-- IS_BCAST (41_classifier R154). -/
def execIsBcast (s : State) : Result State :=
  andThen (operand0 s) fun a =>
  andThen (operand1 s) fun host => finishWith (boolWord (isBcast a host)) s

/-- SAME_SUBNET (41_classifier R155). -/
def execSameSubnet (s : State) : Result State :=
  andThen (operand0 s) fun dest =>
  andThen (operand1 s) fun host =>
  andThen (operand2 s) fun mask => finishWith (boolWord (sameSubnet dest host mask)) s

end Sys2Proof.Machine
end

