-- ==== Sys2Proof/Machine/Transmit.lean ====
section
/-! DEFINITION. The IPv4 Transmit Pipeline: TX_START (43_transmit R200 to R207) and TX_SEND (R208). -/

namespace Sys2Proof.Machine

/-- TX_START refuses to proceed: no usable host address, or the loopback address (43_transmit R201). -/
def txRefuses (host : Word) (protocol : Byte) : Bool :=
  (host == Config.addrUnspecified && !Config.sourcelessProtocol protocol) || host == Config.addrLoopback

/-- The resolution target: the destination on the host's subnet, else the gateway (43_transmit R203). -/
def nextHop (dest host mask gw : Word) : Word := if sameSubnet dest host mask then dest else gw

/-- The ten writes of the template header (43_transmit R200, R205). -/
def writeTemplate (host dest : Word) (protocol : Byte) (s : State) : State :=
  callWrite32 dest (callWrite32 host (callWrite16 0#16 (callWrite8 protocol (callWrite8 Config.txTtl
    (callWrite16 Config.txFlagsFrag (callWrite16 Config.txIdent (callWrite16 0#16
      (callWrite8 Config.txTos (callWrite8 0x45#8 s)))))))))

/-- TX_START from the link target on (43_transmit R205, R206): `writeStart`, template, recording. -/
def emitTemplate (target : LinkAddr) (host dest : Word) (protocol : Byte) (s : State) : Result State :=
  let w := callWriteStart target Config.ethertypeIpv4 (setLinkTarget target s)
  if w.1 then
    raiseStatus .success
      (setTxActive true (recordTx host dest protocol (releaseLinkTarget (writeTemplate host dest protocol w.2))))
  else raiseStatus .linkError (releaseLinkTarget w.2)

/-- TX_START (43_transmit R200). -/
def execTxStart (s : State) : Result State :=
  andThen (operand0 s) fun dest =>
  andThen (operand1 s) fun p =>
    let protocol := low8 p
    let host := s.cfgAddr
    let s1 := setTxActive false s
    if txRefuses host protocol then raiseStatus .txRefused s1
    else if isBcast dest host then emitTemplate Config.linkBcast host dest protocol s1
    else
      let rt := nextHop dest host s.cfgMask s.cfgGw
      let r := callLookup rt s1
      match r.1 with
      | none => raiseStatus .resolutionPending (callRequest rt r.2).2
      | some target => emitTemplate target host dest protocol r.2

/-- TX_SEND (43_transmit R208). -/
def execTxSend (s : State) : Result State :=
  andThen (operand0 s) fun v =>
    let payloadLength := (low16 v).toNat
    if s.txActive = false then .refused .sendWithoutStart
    else if payloadLength > 65515 then .refused .payloadTooLong
    else
      let p := s.txStartPos.toNat
      andThen (callInsert (be16 (BitVec.ofNat 16 (20 + payloadLength))) (p + 2) (setTxActive false s)) fun s1 =>
      andThen (callTxChecksum p 20 0#16 s1) fun c =>
      andThen (callInsert (be16 c.1) (p + 10) c.2) fun s2 =>
        let w := callSend s2
        raiseStatus (if w.1 then .success else .linkError) w.2

end Sys2Proof.Machine
end

