-- ==== Sys2Proof/Machine/Handoff.lean ====
section
/-! DEFINITION. The hand-offs: what a collaborator does, inside the block's call, before it returns (20_memory R76,
44_event_loop R242, 60_exceptions R298, log 6, log 7). -/

namespace Sys2Proof.Machine

/-- An operation started from inside a hand-off: the receive operations and NET_INIT have no meaning there (20_memory R76,
93 U9); the others run as they always do (log 7). -/
def nestedCommand (h : State → Result State) (c : Byte) (s : State) : Result State :=
  match decodeCmd c with
  | .nop => execNop s
  | .csumRx => execCsumRx s
  | .csumTx => execCsumTx s
  | .phcsum => execPhcsum s
  | .swap16 => execSwap16 s
  | .swap32 => execSwap32 s
  | .classify => execClassify s
  | .isBcast => execIsBcast s
  | .sameSubnet => execSameSubnet s
  | .txStart => execTxStart s
  | .txSend => execTxSend s
  | .timerSvc => timerService h s
  | .illegal10 code => execIllegal10 code s
  | .illegal20 code => execIllegal20 code s
  | .illegal40 code => execIllegal40 code s
  | .illegal80 code => execIllegal80 code s
  | .rxParse | .frameDemux | .netTick | .netInit => .refused .nestedReceive
  -- the dispatch rows are not commands: `decodeCmd` answers none of them
  | .etypeArp | .etypeIpv4 | .protoIcmp | .protoTcp | .ipv4Byte0Accepted => .refused .nestedReceive

/-- One action of a collaborator inside a hand-off. Configuration is not written while an operation runs (93 U17). Its
link-layer calls run as they do between operations: that `nextPacketUpdate` and `flush` are among them, which change RXF
and RXQ under the running receive, is the model's choice (DESIGN CHOICE, log 29; 70_reset R322 says only that it should
not flush). So is that it may read every register that an outside agent may read between operations, CSUM_ACC, RES0 and
the timers as they stand meanwhile included (DESIGN CHOICE, log 32; 00_scope R14, 20_memory R76 and 42_receive R185 name
the HDR_* values only). -/
def nestedInput (h : State → Result State) (a : Input) (s : State) : Result State :=
  match commandOf a with
  | some c => nestedCommand h c (setCmd c s)
  | none => if isConfigWrite a then .refused .configDuringOperation else outsideInput a s

/-- A collaborator's actions, in order. -/
def runScript (h : State → Result State) : List Input → State → Result State
  | [], s => .next s
  | a :: rest, s => andThen (nestedInput h a s) (runScript h rest)

/-- A hand-off: the collaborator does what the next script says, and returns. A TIMER_SVC that it starts makes hand-offs of
its own, each with a later script; `depth` bounds their nesting by the number of scripts there are. -/
def runHandoff : Nat → State → Result State
  | 0, s => .next s
  | depth + 1, s =>
    match s.env.handoffs with
    | [] => .next s
    | script :: rest => runScript (runHandoff depth) script (setEnv { s.env with handoffs := rest } s)

/-- What the collaborator that has just been called does (20_memory R76, log 6). -/
def collaborate (s : State) : Result State := runHandoff s.env.handoffs.length s

/-- A hand-off call: its event, then the collaborator (45_interfaces R276). -/
def handOff (e : Event) (s : State) : Result State := collaborate (logEvent e s)

end Sys2Proof.Machine
end

