-- ==== Sys2Proof/Machine/Receive.lean ====
section
/-! DEFINITION. The IPv4 Receive Pipeline, RX_PARSE (42_receive R170 to R185), and the rows of the table that are its
dispatch values: protocol numbers (30_encoding R96) and header byte 0 (R91). -/

namespace Sys2Proof.Machine

/-- A state and the status that the piece of an operation which led to it returns. -/
abbrev Ended := State × Status

/-- Step 9: `payloadLength`, which has no meaning below the header length (42_receive R179, 93 U1). -/
def payloadLength (h : Header) : Result Nat :=
  if h.len.toNat < headerLength h then .refused .totalLengthBelowHeader else .next (h.len.toNat - headerLength h)

/-- Step 9, ICMP arm (42_receive R180). -/
def icmpArm (n : Nat) (s : State) : Result Ended :=
  if s.hdr.dst = Config.addrUnspecified then .next (s, .success)
  else
    andThen (callRxChecksum n 0#16 s) fun c =>
      if c.1 = 0#16 then andThen (handOff (.icmpReceive c.2.hdr) c.2) fun t => .next (t, .success)
      else .next (c.2, .icmpChecksumInvalid)

/-- Step 9, TCP arm (42_receive R181). -/
def tcpArm (n : Nat) (s : State) : Result Ended :=
  let len := BitVec.ofNat 16 n
  let s1 := setAcc (phFoldedSum s.hdr.proto len s.hdr.src s.hdr.dst) s
  andThen (callRxChecksum n (phsum s.hdr.proto len s.hdr.src s.hdr.dst) s1) fun c =>
    if c.1 = 0#16 ∧ s.hdr.dst ≠ Config.addrLimitedBcast ∧ s.hdr.dst ≠ Config.addrUnspecified then
      andThen (handOff (.tcpRecv c.2.hdr.src n) c.2) fun t => .next (t, .success)
    else .next (c.2, .success)

/-- Step 9, every other protocol (42_receive R182). -/
def discardArm (n : Nat) (s : State) : Result Ended :=
  andThen (callDump n s) fun t => .next (t, .success)

/-- Step 9: dispatch on the protocol number (42_receive R179). -/
def dispatchProtocol (s : State) : Result Ended :=
  andThen (payloadLength s.hdr) fun n =>
    match decodeProto s.hdr.proto with
    | some .protoIcmp => icmpArm n s
    | some .protoTcp => tcpArm n s
    | _ => discardArm n s

/-- Steps 3 to 9 on a loaded header, in their order (42_receive R173 to R179). -/
def validateHeader (host : Word) (s : State) : Result Ended :=
  if s.hdr.version ≠ Config.ipVersion then .next (s, .wrongVersion)
  else if s.hdr.src = Config.addrLimitedBcast then .next (s, .sourceSpoofed)
  else if classify s.hdr.dst host = .notForUs then .next (s, .destinationMismatch)
  else if s.hdr.ihl.toNat < Config.ihlMin then .next (s, .malformedHeader)
  else if Config.ihlMin < s.hdr.ihl.toNat then
    andThen (callDump (headerLength s.hdr - Config.ipv4HdrLen) s) fun t => .next (t, .optionsUnsupported)
  else dispatchProtocol s

/-- Steps 1 and 2, then the rest (42_receive R170 to R172). -/
def parseHeader (s : State) : Result Ended :=
  andThen (callRxChecksum Config.ipv4HdrLen 0#16 s) fun c =>
    if c.1 ≠ 0#16 then .next (c.2, .checksumInvalid)
    else
      andThen (callReadBlock Config.ipv4HdrLen c.2) fun b =>
        validateHeader s.cfgAddr (openHeader (loadHeader b.1) b.2)

/-- The RX_PARSE body (42_receive R170): on every exit HDR_VALID is cleared. -/
def rxParseBody (s : State) : Result Ended :=
  andThen (parseHeader s) fun r => .next (closeHeader r.1, r.2)

/-- The end of an operation with the status that a piece of it returned. -/
def finishEnded (r : Ended) : Result State := raiseStatus r.2 r.1

/-- RX_PARSE (42_receive R170). -/
def execRxParse (s : State) : Result State := andThen (rxParseBody s) finishEnded

/-- A protocol arm by itself, on the header that is loaded, to the end of RX_PARSE (log 10). -/
def protocolArm (arm : Nat → State → Result Ended) (s : State) : Result State :=
  andThen (readHeld s.hdrValid 23 s.hdr) fun h =>
  andThen (payloadLength h) fun n =>
  andThen (arm n s) fun r => finishEnded (closeHeader r.1, r.2)

/-- Protocol number 1 at step 9 (42_receive R180, log 10). -/
def execProtoIcmp (s : State) : Result State := protocolArm icmpArm s

/-- Protocol number 6 at step 9 (42_receive R181, log 10). -/
def execProtoTcp (s : State) : Result State := protocolArm tcpArm s

/-- Header byte 0 = 0x45: it is loaded as version 4 and ihl 5, and the tests of steps 3, 7 and 8 pass, so that no status is
raised (30_encoding R91, log 10). -/
def execIpv4Byte0Accepted (s : State) : Result State :=
  .next { s with hdr := { s.hdr with version := versionOf 0x45#8, ihl := ihlOf 0x45#8 } }

end Sys2Proof.Machine
end

