-- ==== Sys2Proof/Machine/EventLoop.lean ====
section
/-! DEFINITION. The Network Event Loop: FRAME_DEMUX, TIMER_SVC, NET_TICK, NET_INIT (44_event_loop R230 to R239), and the
rows of the table that are frame types (30_encoding R95). -/

namespace Sys2Proof.Machine

/-- What the FRAME_DEMUX body leaves (44_event_loop R232). -/
structure FrameResult where
  state     : State
  taken     : Bool
  etherType : Half
  status    : Status

/-- Dispatch arm of an ARP frame (44_event_loop R233 (1)). -/
def arpArm (s : State) : Result Ended :=
  andThen (handOff .arpReceive s) fun t => .next (t, .success)

/-- Dispatch arm of an IPv4 frame (44_event_loop R233 (2)). -/
def ipv4Arm (s : State) : Result Ended := rxParseBody s

/-- Dispatch by frame type; every other type is a no-op (44_event_loop R232, R233). -/
def dispatchFrame (t : Half) (s : State) : Result Ended :=
  match decodeEtherType t with
  | some .etypeArp => arpArm s
  | some .etypeIpv4 => ipv4Arm s
  | _ => .next (s, .success)

/-- The FRAME_DEMUX body (44_event_loop R232): at most one frame is taken, and a taken frame is always flushed. -/
def frameDemuxBody (s : State) : Result FrameResult :=
  match s.mem.rxq with
  | [] => .next ⟨logEvent (.linkPacketReady false) s, false, 0#16, .success⟩
  | f :: rest =>
    let s1 := logEvent .linkNextPacketUpdate (setMem (takeFrame f rest s.mem) (logEvent (.linkPacketReady true) s))
    andThen (callReadBlock Config.linkHdrLen s1) fun lh =>
    andThen (dispatchFrame (etherTypeOf lh.1) lh.2) fun r => .next ⟨callFlush r.1, true, etherTypeOf lh.1, r.2⟩

/-- FRAME_DEMUX (44_event_loop R232). -/
def execFrameDemux (s : State) : Result State :=
  andThen (frameDemuxBody s) fun f =>
    raiseStatus f.status (setRes0 (loopResult f.etherType false false f.taken) f.state)

/-- TIMER_SVC (44_event_loop R235). -/
def execTimerSvc (s : State) : Result State := timerService collaborate s

/-- NET_TICK (44_event_loop R230): the three steps always run, and the status is that of step 2. -/
def execNetTick (s : State) : Result State :=
  andThen (frameDemuxBody (callEventHandler s)) fun f =>
  andThen (timerBody collaborate f.state) fun t =>
    raiseStatus f.status (setRes0 (loopResult f.etherType t.tcp t.arp f.taken) t.state)

/-- NET_INIT (44_event_loop R239). -/
def execNetInit (s : State) : Result State :=
  andThen (handOff .arpInit s) fun s1 =>
  andThen (handOff .tcpInit s1) fun s2 =>
    let c := callClock s2
    raiseStatus .success (closeHeader (setTxActive false (loadTimers c.1 c.2)))

/-- Frame type 0x0806 by itself: its dispatch arm, with the arm's status in STATUS (44_event_loop R233, log 10). -/
def execEtypeArp (s : State) : Result State := andThen (arpArm s) finishEnded

/-- Frame type 0x0800 by itself: its dispatch arm, with the arm's status in STATUS (44_event_loop R233, log 10). -/
def execEtypeIpv4 (s : State) : Result State := andThen (ipv4Arm s) finishEnded

end Sys2Proof.Machine
end

