-- ==== Sys2Proof/Machine/Dispatch.lean ====
section
/-! DEFINITION. One arm per row of spec/opcode_table.json. -/

namespace Sys2Proof.Machine

def exec (i : Instr) (s : State) : Host.Outcome State Fault Refusal :=
  match i with
  | .nop => Sys2Proof.Machine.execNop s
  | .csumRx => Sys2Proof.Machine.execCsumRx s
  | .csumTx => Sys2Proof.Machine.execCsumTx s
  | .phcsum => Sys2Proof.Machine.execPhcsum s
  | .swap16 => Sys2Proof.Machine.execSwap16 s
  | .swap32 => Sys2Proof.Machine.execSwap32 s
  | .classify => Sys2Proof.Machine.execClassify s
  | .isBcast => Sys2Proof.Machine.execIsBcast s
  | .sameSubnet => Sys2Proof.Machine.execSameSubnet s
  | .rxParse => Sys2Proof.Machine.execRxParse s
  | .txStart => Sys2Proof.Machine.execTxStart s
  | .txSend => Sys2Proof.Machine.execTxSend s
  | .frameDemux => Sys2Proof.Machine.execFrameDemux s
  | .timerSvc => Sys2Proof.Machine.execTimerSvc s
  | .netTick => Sys2Proof.Machine.execNetTick s
  | .netInit => Sys2Proof.Machine.execNetInit s
  | .illegal10 code => Sys2Proof.Machine.execIllegal10 code s
  | .illegal20 code => Sys2Proof.Machine.execIllegal20 code s
  | .illegal40 code => Sys2Proof.Machine.execIllegal40 code s
  | .illegal80 code => Sys2Proof.Machine.execIllegal80 code s
  | .etypeArp => Sys2Proof.Machine.execEtypeArp s
  | .etypeIpv4 => Sys2Proof.Machine.execEtypeIpv4 s
  | .protoIcmp => Sys2Proof.Machine.execProtoIcmp s
  | .protoTcp => Sys2Proof.Machine.execProtoTcp s
  | .ipv4Byte0Accepted => Sys2Proof.Machine.execIpv4Byte0Accepted s

end Sys2Proof.Machine
end

