-- ==== Sys2Proof/Machine/Fetch.lean ====
section
/-! DEFINITION. Where an instruction is written so that the next step runs it. The block fetches nothing: a command is the
driver's write of CMD, and a frame type stands in a received frame (10_state R22, R30, 20_memory R73, log 8). -/

namespace Sys2Proof.Machine

/-- A command as the driver issues it: its operand words stand in OP0 to OP3, here as zeros, and its byte is the next write
of CMD (30_encoding R98, R106; a table word has no bits for the operand words). -/
def placeCommand (c : Byte) (s : State) : State :=
  { s with
    op0 := 0#32, op1 := 0#32, op2 := 0#32, op3 := 0#32,
    held := { s.held with op0 := true, op1 := true, op2 := true, op3 := true },
    inputs := .writeReg 3 (c.setWidth 32) :: s.inputs }

/-- A frame type as FRAME_DEMUX finds it: at offset 12 of the frame at the head of RXQ (30_encoding R94), zeros elsewhere, with
room for an IPv4 header; the driver's next write of CMD is FRAME_DEMUX. -/
def placeEtherType (t : Half) (s : State) : State :=
  placeCommand 0x0C#8
    { s with
      mem := { s.mem with
        rxq := (List.replicate Config.linkTypeOffset 0#8 ++ be16 t ++ List.replicate Config.ipv4HdrLen 0#8) ::
          s.mem.rxq } }

/-- A table word is placed in the format that its width says (log 9). -/
def placeTableWord (nbits w : Nat) (s : State) : State :=
  if nbits ≤ 8 then placeCommand (BitVec.ofNat 8 w) s else placeEtherType (BitVec.ofNat 16 w) s

end Sys2Proof.Machine
end

