-- ==== Sys2Proof/Machine/Step.lean ====
section
/-! DEFINITION. One step: the next action of the outside agents, which is an operation when it is a write of CMD. -/

namespace Sys2Proof.Machine

/-- One step (10_state R22, R30). With nothing to do the block is idle (60_exceptions R305). A write of CMD runs the
operation whose code it holds, to completion; any other action is the outside agents' own. -/
def step (s : State) : Host.Outcome State Fault Refusal :=
  match s.inputs with
  | [] => .next s
  | a :: rest =>
    match commandOf a with
    | some c => exec (decodeCmd c) (setCmd c (setInputs rest s))
    | none => outsideInput a (setInputs rest s)

/-- The state with a table word placed where the next step runs it (log 8). -/
def State.withFetchWord (s : State) (nbits w : Nat) : State := placeTableWord nbits w s

end Sys2Proof.Machine
end

