-- ==== Sys2Proof/Safety.lean ====
section
/-! DEFINITION. What holds of the block between operations, in the terms the statements use. -/

namespace Sys2Proof.Safety

open Sys2Proof.Machine

/-- What every step keeps. -/
structure Inv (s : State) : Prop where
  /-- STATUS holds one of the twelve codes (60_exceptions R281). -/
  status_legal : s.status.toNat ≤ 0x0B
  /-- HDR_VALID is 0 between operations (10_state R25). -/
  header_closed : s.hdrValid = false
  /-- The read pointer lies within the current frame (20_memory R62). -/
  memory_wf : s.mem.wf = true
  /-- CSUM_ACC holds a folded sum (10_state R29). -/
  acc_folded : s.csumAcc.toNat < 0x10000
  /-- While a datagram is being built, the registers of its TX_START hold a value and TX_START_POS is LINK_HDR_LEN
  (10_state R26). -/
  tx_recorded : s.txActive = true → s.held.tx = true ∧ s.txStartPos.toNat = 14

/-- The instruction runs to its end and leaves a next state: it is not refused (00_scope R13). -/
def Completes (i : Instr) (s : State) : Prop := ∃ t, exec i s = .next t

end Sys2Proof.Safety
end

