-- ==== Sys2Proof/Certificates/Slice0/Obligations.lean ====
section
/-! DEFINITION. The statements for the provers, and the helper definitions they are written with. -/

namespace Sys2Proof.Claims

open Sys2Proof.Machine

/-- `{v[7:0], v[15:8]}` on the low half of a register, zero-extended: written out bit slice by bit slice. -/
def swapped16 (v : Word) : Word := (v.extractLsb' 0 8 ++ v.extractLsb' 8 8 : BitVec 16).setWidth 32

/-- An address is a broadcast for a host: the limited one, or the directed one of a class-sized network that contains the
host (41_classifier R150, R151, as they are written there). -/
def bcastForm (a host : Word) : Prop :=
  a = 0xFFFFFFFF#32 ∨ (a ||| 0xFF000000#32 = 0xFFFFFFFF#32 ∧ host ||| 0x00FFFFFF#32 = a) ∨
    (a ||| 0xFFFF0000#32 = 0xFFFFFFFF#32 ∧ host ||| 0x0000FFFF#32 = a) ∨
    (a ||| 0xFFFFFF00#32 = 0xFFFFFFFF#32 ∧ host ||| 0x000000FF#32 = a)

/-- The destinations that RX_PARSE step 5 lets pass (41_classifier R152). -/
def forUs (dst host : Word) : Prop := dst = host ∨ dst = 0#32 ∨ bcastForm dst host ∨ dst = 0xE0000001#32

/-- The `n` bytes of a frame from the read pointer on. -/
def ahead (s : State) (f : List Byte) (n : Nat) : List Byte := (f.drop s.mem.rp).take n

/-- The state in which steps 1 and 2 of RX_PARSE leave a datagram whose header sum is zero (42_receive R171, R172). -/
def loadedState (s : State) (hb : List Byte) : State :=
  { s with
    csumAcc := BitVec.ofNat 32 (foldedSum hb 0#16), held := { s.held with acc := true },
    mem := { s.mem with rp := s.mem.rp + 20 }, hdr := loadHeader hb, hdrValid := true,
    trace := s.trace ++ [.linkComputeRxChecksum 20 0#16 0#16, .linkReadBlock 20 hb] }

/-- `t` is `u` but for STATUS, which is `st`, HDR_VALID, which is 0, and the HDR_* registers, which hold no value (with the
model's count of free values). -/
def endsAs (u : State) (st : Byte) (t : State) : Prop :=
  t.status = st ∧ t.hdrValid = false ∧
    { t with status := u.status, hdr := u.hdr, hdrValid := u.hdrValid, free := u.free } = u

/-- A command is one of the two ways into the receive pipeline: RX_PARSE itself or the IPv4 arm of FRAME_DEMUX. -/
def receives (i : Instr) : Prop := i = .rxParse ∨ i = .etypeIpv4

/-- An event that hands a datagram to ICMP or TCP. -/
def handsOver : Event → Bool
  | .icmpReceive _ => true
  | .tcpRecv _ _ => true
  | _ => false

/-- The collaborator that has been called in state `s` returns in state `u`: it does nothing where no script is pending. -/
def collaboratorReturns (s u : State) : Prop :=
  (s.env.handoffs = [] ∧ u = s) ∨ collaborate s = .next u

/-- The resolution target of 43_transmit R203. -/
def hop (s : State) (dest : Word) : Word :=
  if (dest ^^^ s.cfgAddr) &&& s.cfgMask = 0#32 then dest else s.cfgGw

/-- TX_START finds the link target: the broadcast address, or the listed answer of `arp.lookup`; `env` and `calls` are the
answers left and the calls made (43_transmit R202 to R204). -/
def resolves (s : State) (dest : Word) (target : LinkAddr) (env : Env) (calls : List Event) : Prop :=
  (bcastForm dest s.cfgAddr ∧ target = 0xFFFFFFFFFFFF#48 ∧ env = s.env ∧ calls = []) ∨
  (¬ bcastForm dest s.cfgAddr ∧ ∃ rest, s.env.lookup = some target :: rest ∧ env = { s.env with lookup := rest } ∧
    calls = [.arpLookup (hop s dest) (some target)])

/-- TX_START does not refuse: a usable host address, or a protocol that needs none, and not the loopback address
(43_transmit R201). -/
def mayStart (s : State) (protocol : Byte) : Prop :=
  (s.cfgAddr ≠ 0#32 ∨ Config.sourcelessProtocol protocol = true) ∧ s.cfgAddr ≠ 0x7F000001#32

/-- The 20 bytes of the template header, at the parameters' defaults (43_transmit R205). -/
def template (host dest : Word) (protocol : Byte) : List Byte :=
  [0x45#8, 0x00#8, 0x00#8, 0x00#8, 0x00#8, 0x00#8, 0x40#8, 0x00#8, 0x40#8, protocol, 0x00#8, 0x00#8] ++
    be32 host ++ be32 dest

/-- The six bytes of a link address, most significant first (30_encoding R104). -/
def linkBytes (v : BitVec 48) : List Byte :=
  [v.extractLsb' 40 8, v.extractLsb' 32 8, v.extractLsb' 24 8, v.extractLsb' 16 8, v.extractLsb' 8 8,
    v.extractLsb' 0 8]

/-- The ten writes of the template header (43_transmit R200). -/
def templateWrites (host dest : Word) (protocol : Byte) : List Event :=
  [.linkWrite8 0x45#8, .linkWrite8 0x00#8, .linkWrite16 0x0000#16, .linkWrite16 0x0000#16, .linkWrite16 0x4000#16,
    .linkWrite8 0x40#8, .linkWrite8 protocol, .linkWrite16 0x0000#16, .linkWrite32 host, .linkWrite32 dest]

/-- Two bytes of a buffer overwritten at an offset. -/
def patch (buf : List Byte) (o : Nat) (v : Half) : List Byte := buf.take o ++ be16 v ++ buf.drop (o + 2)

/-- The outbound frame once TX_SEND has patched its total length (43_transmit R208). -/
def lengthPatched (s : State) : List Byte :=
  patch s.mem.txbuf (s.txStartPos.toNat + 2) (BitVec.ofNat 16 (20 + (s.op0.extractLsb' 0 16).toNat))

/-- The header that TX_SEND sums: 20 bytes, with the length in place (43_transmit R208). -/
def summedHeader (s : State) : List Byte := ((lengthPatched s).drop s.txStartPos.toNat).take 20

/-- The frame that TX_SEND hands to the medium (43_transmit R208). -/
def sentFrame (s : State) : List Byte :=
  patch (lengthPatched s) (s.txStartPos.toNat + 10) (csum (summedHeader s) 0#16)

/-- TX_SEND is admitted and its patches lie in the buffer. -/
def sendReady (s : State) : Prop :=
  s.held.op0 = true ∧ s.txActive = true ∧ (s.op0.extractLsb' 0 16).toNat ≤ 65515 ∧
    s.txStartPos.toNat + 20 ≤ s.mem.txbuf.length

/-- An interval has passed, modulo 2^32 (44_event_loop R235). -/
def due (now snapshot : Word) (interval : Nat) : Prop := interval ≤ (now - snapshot).toNat

/-- FRAME_DEMUX has advanced to frame `f` and read its link header (44_event_loop R232). -/
def frameTaken (s : State) (f : List Byte) (rest : List (List Byte)) : State :=
  { s with
    mem := { s.mem with rxq := rest, rxf := some f, rp := 14 },
    trace := s.trace ++ [.linkPacketReady true, .linkNextPacketUpdate, .linkReadBlock 14 (f.take 14)] }

/-- The type field of a frame (30_encoding R94). -/
def typeField (f : List Byte) : Half := ntoh16 (f.getD 12 0#8) (f.getD 13 0#8)

/-- FRAME_DEMUX ends: the frame is flushed and RES0 says which type was taken (44_event_loop R232, R234). -/
def frameFlushed (u : State) (t : Half) : State :=
  { u with
    mem := { u.mem with rxf := none }, trace := u.trace ++ [.linkFlush],
    res0 := (t.setWidth 32 <<< 16) + 1#32, held := { u.held with res0 := true } }

/-- `link.eventHandler()` with the listed arrivals (44_event_loop R231, 45_interfaces R250). -/
def eventsHandled (s : State) (frames : List (List Byte)) (rest : List (List (List Byte))) : State :=
  { s with
    trace := s.trace ++ [.linkEventHandler], env := { s.env with arrivals := rest },
    mem := { s.mem with rxq := s.mem.rxq ++ frames } }

/-- The frames that the next `link.eventHandler()` appends, and the listed arrivals after it (45_interfaces R250). -/
def nextArrivals (s : State) (frames : List (List Byte)) (later : List (List (List Byte))) : Prop :=
  s.env.arrivals = frames :: later ∨ (s.env.arrivals = [] ∧ frames = [] ∧ later = [])

/-- The registers that an outside agent may write, and those that exist (10_state R20). -/
def outsideRegister (n : Nat) : Prop := n ≤ 7
/-- The registers that exist (10_state R20). -/
def existingRegister (n : Nat) : Prop :=
  n ≤ 9 ∨ (16 ≤ n ∧ n ≤ 27) ∨ (32 ≤ n ∧ n ≤ 37) ∨ n = 40 ∨ n = 41 ∨ n = 48

/-- Register `n` answers `v`, zero-extended, where it holds a value, and its read is refused where it holds none. -/
def readsAs {w : Nat} (s : State) (n : Nat) (holds : Bool) (v : BitVec w) : Prop :=
  readRegister n s = if holds then .next (v.setWidth 48) else .refused (.registerHoldsNoValue n)

/-- What one action of a collaborator does inside a hand-off: a receive operation or NET_INIT has no meaning there and any
other command is that operation, the configuration is not written, and everything else is as between operations
(20_memory R76, 93 U9, U17). -/
def nestedAction (a : Input) (u : State) : Result State :=
  match a with
  | .writeReg n v =>
    let c := v.extractLsb' 0 8
    if n = 3 ∧ v.toNat < 256 then
      if decodeCmd c ∈ [Instr.rxParse, .frameDemux, .netTick, .netInit] then .refused .nestedReceive
      else exec (decodeCmd c) { u with cmd := c }
    else if n ≤ 2 then .refused .configDuringOperation
    else writeRegister n v u
  | .readReg n => outsideInput (.readReg n) u
  | .arrive f => outsideInput (.arrive f) u
  | .link c => outsideInput (.link c) u

end Sys2Proof.Claims

open Sys2Proof Sys2Proof.Machine Sys2Proof.Claims

/-! ### Encodings and the step -/

/-- Decoding the encoding of a well-formed instruction, in its own format, gives it back and leaves what follows
(30_encoding R91, R95, R96, R98, R99). -/
def Obligations.DecodeOfEncode : Prop :=
  ∀ (i : Instr) (rest : List Byte), wellFormed i = true →
    decode (formatOf i) (encode i ++ rest) = .ok (i, rest)

/-- Every byte is a command: it decodes to a well-formed command whose encoding is that byte (30_encoding R98, R99, R101). -/
def Obligations.EveryByteIsOneCommand : Prop :=
  ∀ c : Byte, wellFormed (decodeCmd c) = true ∧ formatOf (decodeCmd c) = .cmd8 ∧ encode (decodeCmd c) = [c]

/-- Words written out from the spec's encodings decode to their instructions (30_encoding R91, R95, R96, R99, R101).
The dispatch values 0x0806, 0x0800, 6 and the nibbles of 0x45 are the spec's defaults for its open parameters (log
14). -/
def Obligations.WrittenWordsDecode : Prop :=
  decode .cmd8 [0x00#8] = .ok (.nop, []) ∧ decode .cmd8 [0x09#8] = .ok (.rxParse, []) ∧
  decode .cmd8 [0x0E#8] = .ok (.netTick, []) ∧ decode .cmd8 [0x1E#8] = .ok (.illegal10 0x1E#8, []) ∧
  decode .cmd8 [0xFF#8] = .ok (.illegal80 0xFF#8, []) ∧ decode .etherType16 [0x08#8, 0x06#8] = .ok (.etypeArp, []) ∧
  decode .etherType16 [0x08#8, 0x00#8] = .ok (.etypeIpv4, []) ∧ decode .ipProto8 [0x06#8] = .ok (.protoTcp, []) ∧
  decode .ipv4HdrByte0 [0x45#8] = .ok (.ipv4Byte0Accepted, [])

/-- The dispatch values are compared whole: each row is selected by its own value and by no other, and all other
values select no row (30_encoding R91, R95, R96). The constants are the spec's defaults for its open parameters (log
14). -/
def Obligations.DispatchValuesExact : Prop :=
  (∀ (t : Half) (i : Instr), decodeEtherType t = some i ↔
    (t = 0x0806#16 ∧ i = .etypeArp) ∨ (t = 0x0800#16 ∧ i = .etypeIpv4)) ∧
  (∀ (p : Byte) (i : Instr), decodeProto p = some i ↔ (p = 1#8 ∧ i = .protoIcmp) ∨ (p = 6#8 ∧ i = .protoTcp)) ∧
  (∀ (b : Byte) (i : Instr), decodeByte0 b = some i ↔ b = 0x45#8 ∧ i = .ipv4Byte0Accepted)

/-- The eleven fields of a header, from its 20 bytes written out one by one (30_encoding R90, R91, R108): which bytes each
field is, in which order, and the header length that follows from ihl. The positions are the spec's own from general
knowledge (log 14). -/
def Obligations.HeaderFieldPositions : Prop :=
  ∀ b0 b1 b2 b3 b4 b5 b6 b7 b8 b9 b10 b11 b12 b13 b14 b15 b16 b17 b18 b19 : Byte,
    let h := loadHeader [b0, b1, b2, b3, b4, b5, b6, b7, b8, b9, b10, b11, b12, b13, b14, b15, b16, b17, b18, b19]
    h.version.toNat = b0.toNat / 16 ∧ h.ihl.toNat = b0.toNat % 16 ∧ headerLength h = b0.toNat % 16 * 4 ∧
    h.tos = b1 ∧ h.len.toNat = b2.toNat * 256 + b3.toNat ∧ h.ident.toNat = b4.toNat * 256 + b5.toNat ∧
    h.flagsFrag.toNat = b6.toNat * 256 + b7.toNat ∧ h.ttl = b8 ∧ h.proto = b9 ∧
    h.csum.toNat = b10.toNat * 256 + b11.toNat ∧
    h.src.toNat = b12.toNat * 2 ^ 24 + b13.toNat * 2 ^ 16 + b14.toNat * 2 ^ 8 + b15.toNat ∧
    h.dst.toNat = b16.toNat * 2 ^ 24 + b17.toNat * 2 ^ 16 + b18.toNat * 2 ^ 8 + b19.toNat

/-- A write of CMD is a step that runs the operation whose code it holds, with CMD holding it and the write consumed
(10_state R22); with nothing written the block stays as it is (60_exceptions R305). Every other action of an outside
agent is a step too, which consumes it and does what the access does: another register write or a read, a link-layer
call, and a frame that arrives, which goes to the end of RXQ (20_memory R62, R72). That the agents' actions are a list
the step reads is the model's choice (log 8), and so are the refusal of a value too wide for CMD (log 21), the field
that keeps the answer of a read (log 22) and the queue without a depth (log 31). -/
def Obligations.StepRunsTheCommandWritten : Prop :=
  (∀ (s : State) (v : Word) (rest : List Input), s.inputs = .writeReg 3 v :: rest → v.toNat < 256 →
    decode .cmd8 [v.extractLsb' 0 8] = .ok (decodeCmd (v.extractLsb' 0 8), []) ∧
    step s = exec (decodeCmd (v.extractLsb' 0 8)) { s with inputs := rest, cmd := v.extractLsb' 0 8 }) ∧
  (∀ (s : State) (v : Word) (rest : List Input), s.inputs = .writeReg 3 v :: rest → 256 ≤ v.toNat →
    step s = .refused (.valueTooWide 3)) ∧
  (∀ (s : State) (n : Nat) (v : Word) (rest : List Input), s.inputs = .writeReg n v :: rest → n ≠ 3 →
    (∀ t, writeRegister n v s = .next t → step s = .next { t with inputs := rest }) ∧
    (∀ r, writeRegister n v s = .refused r → step s = .refused r)) ∧
  (∀ (s : State) (n : Nat) (rest : List Input), s.inputs = .readReg n :: rest →
    (∀ w, readRegister n s = .next w → step s = .next { s with inputs := rest, answer := .value w }) ∧
    (∀ r, readRegister n s = .refused r → step s = .refused r)) ∧
  (∀ (s : State) (f : List Byte) (rest : List Input), s.inputs = .arrive f :: rest →
    step s = .next { s with inputs := rest, mem := { s.mem with rxq := s.mem.rxq ++ [f] } }) ∧
  (∀ (s : State) (c : LinkCall) (rest : List Input), s.inputs = .link c :: rest →
    (∀ t, outsideLink c s = .next t → step s = .next { t with inputs := rest }) ∧
    (∀ r, outsideLink c s = .refused r → step s = .refused r)) ∧
  (∀ s : State, s.inputs = [] → step s = .next s)

/-! ### Reset and invariant -/

/-- What reset leaves (10_state R34): CMD, STATUS, HDR_VALID and TX_ACTIVE are 0; every other register of the block,
and each operand register, holds no value, so that reading it is refused (10_state R35, log 24). The block is idle:
with no action of an outside agent pending a step changes nothing (log 8). -/
def Obligations.ResetRegisters : Prop :=
  State.reset.cmd = 0x00#8 ∧ State.reset.status = 0x00#8 ∧ State.reset.hdrValid = false ∧
  State.reset.txActive = false ∧ step State.reset = .next State.reset ∧
  ∀ n ∈ [4, 5, 6, 7, 8, 16, 17, 18, 19, 20, 21, 22, 23, 24, 25, 26, 32, 33, 34, 36, 37, 40, 41, 48],
    readRegister n State.reset = .refused (.registerHoldsNoValue n)

/-- The state after reset has the invariant. The clause on CSUM_ACC rests there on the zero that the model puts into a
register with no value (log 1), and the clause on the buffers on the link layer's state at reset (log 3): both are the
model's choice. -/
def Obligations.ResetHasInvariant : Prop := Sys2Proof.Safety.Inv State.reset

/-- Every step keeps the invariant: STATUS is a legal code, HDR_VALID is 0 between operations, the read pointer lies
within the frame, CSUM_ACC holds a folded sum, and a datagram under construction begins at offset 14 (60_exceptions
R281, 10_state R25, R26, R29, 20_memory R62). The 14 is LINK_HDR_LEN, the spec's default for an open parameter (log
14). -/
def Obligations.StepKeepsInvariant : Prop :=
  ∀ s t : State, Sys2Proof.Safety.Inv s → step s = .next t → Sys2Proof.Safety.Inv t

/-- Which operations are never refused (00_scope R13): NOP and the illegal commands (30_encoding R101); with the
operands that it names holding a value, each operation on operands alone (40_checksum R135 to R137, 41_classifier R153
to R155) and TX_START (43_transmit R200); NET_INIT, and after it TIMER_SVC, with collaborators that do nothing
(44_event_loop R239, R235); and no step is refused for an instruction without a meaning. What a collaborator does
comes from a script: the model's choice (log 6). -/
def Obligations.NeverRefused : Prop :=
  (∀ (i : Instr) (s : State), i = .nop ∨ (∃ c, i = .illegal10 c ∨ i = .illegal20 c ∨ i = .illegal40 c ∨ i = .illegal80 c) ∨
    (s.held.op0 = true ∧ (i = .swap16 ∨ i = .swap32)) ∨
    (s.held.op0 = true ∧ s.held.op1 = true ∧ (i = .isBcast ∨ i = .txStart)) ∨
    (s.held.op0 = true ∧ s.held.op1 = true ∧ s.held.op2 = true ∧ (i = .classify ∨ i = .sameSubnet)) ∨
    (s.held.op0 = true ∧ s.held.op1 = true ∧ s.held.op2 = true ∧ s.held.op3 = true ∧ i = .phcsum) ∨
    (s.env.handoffs = [] ∧ (i = .netInit ∨ (s.held.timers = true ∧ i = .timerSvc))) →
    Sys2Proof.Safety.Completes i s) ∧
  ∀ (s : State) (m : String), step s ≠ .refused (.notModelled m)

/-- No operation, and nothing a collaborator does inside one, changes the configuration registers (10_state R21, 70_reset
R320). -/
def Obligations.OperationsKeepConfiguration : Prop :=
  ∀ (i : Instr) (s t : State), exec i s = .next t →
    t.cfgAddr = s.cfgAddr ∧ t.cfgMask = s.cfgMask ∧ t.cfgGw = s.cfgGw

/-! ### Checksum arithmetic -/

/-- The fold (40_checksum R130): the loop, its value modulo 0xFFFF, and that only 0 folds to 0. -/
def Obligations.FoldIsEndAroundCarry : Prop :=
  ∀ a : Nat, a < 2 ^ 32 →
    (fold a = if a >>> 16 = 0 then a else fold ((a &&& 0xFFFF) + (a >>> 16))) ∧ fold a ≤ 0xFFFF ∧
    (a % 0xFFFF ≠ 0 → fold a = a % 0xFFFF) ∧ (a ≠ 0 → a % 0xFFFF = 0 → fold a = 0xFFFF) ∧ (fold a = 0 ↔ a = 0)

/-- The accumulator never wraps, and when a checksum is 0x0000 and when it is 0xFFFF (40_checksum R138 (1), (5)): a range of
at most 65535 bytes and any seed. -/
def Obligations.ChecksumZeroAndAllOnes : Prop :=
  ∀ (bytes : List Byte) (seed : Half), bytes.length ≤ 65535 →
    accumulate bytes seed ≤ 0x80007F00 ∧
    (csum bytes seed = 0x0000#16 ↔ accumulate bytes seed ≠ 0 ∧ accumulate bytes seed % 0xFFFF = 0) ∧
    (csum bytes seed = 0xFFFF#16 ↔ (∀ b ∈ bytes, b = 0#8) ∧ seed = 0#16)

/-- The seeding law (40_checksum R141): a first pass over an even range may seed a second. -/
def Obligations.ChecksumSeedingLaw : Prop :=
  ∀ (a b : List Byte) (seed : Half), a.length % 2 = 0 → (a ++ b).length ≤ 65535 →
    csum (a ++ b) seed = csum b (BitVec.ofNat 16 (fold (accumulate a seed)))

/-- Storing the checksum of a range, taken with its field zero, into the field makes the range sum to zero (40_checksum R139). -/
def Obligations.StoredChecksumVerifies : Prop :=
  ∀ (before after : List Byte) (seed : Half), before.length % 2 = 0 → after.length % 2 = 0 →
    (before ++ [0#8, 0#8] ++ after).length ≤ 65535 →
    csum (before ++ be16 (csum (before ++ [0#8, 0#8] ++ after) seed) ++ after) seed = 0x0000#16

/-- Flipping any single bit of a range that verifies makes its checksum non-zero (40_checksum R139, last sentence). -/
def Obligations.SingleBitFlipIsDetected : Prop :=
  ∀ (before after : List Byte) (b : Byte) (k : Nat) (seed : Half), k < 8 →
    (before ++ [b] ++ after).length ≤ 65535 → csum (before ++ [b] ++ after) seed = 0x0000#16 →
    csum (before ++ [b ^^^ (1#8 <<< k)] ++ after) seed ≠ 0x0000#16

/-- How the checksum's words are formed (40_checksum R131): the seed, plus a word for each pair of bytes, the first
the high half, and an odd last byte is the high half of a word whose low half is zero. And the pseudo-header sum,
written out: six 16-bit words, folded, not complemented (40_checksum R135, 30_encoding R93). -/
def Obligations.ChecksumWordsWrittenOut : Prop :=
  (∀ seed : Half, accumulate [] seed = seed.toNat) ∧
  (∀ (a : List Byte) (b0 b1 : Byte) (seed : Half), a.length % 2 = 0 →
    accumulate (a ++ [b0, b1]) seed = accumulate a seed + (b0.toNat * 256 + b1.toNat)) ∧
  (∀ (a : List Byte) (b : Byte) (seed : Half), a.length % 2 = 0 →
    accumulate (a ++ [b]) seed = accumulate a seed + (b.toNat * 256 + 0)) ∧
  ∀ (protocol : Byte) (payloadLength : Half) (src dst : Word),
    phsum protocol payloadLength src dst =
      BitVec.ofNat 16 (fold ((src.extractLsb' 16 16).toNat + (src.extractLsb' 0 16).toNat +
        (dst.extractLsb' 16 16).toNat + (dst.extractLsb' 0 16).toNat + protocol.toNat + payloadLength.toNat))

/-! ### Commands on operands -/

/-- NOP changes nothing, not even STATUS; an illegal command writes ILLEGAL_COMMAND to STATUS and changes nothing else
(30_encoding R101, 60_exceptions R294). -/
def Obligations.NopAndIllegalCommands : Prop :=
  (∀ s : State, exec .nop s = .next s) ∧
  ∀ (c : Byte) (s : State), 0x10 ≤ c.toNat →
    exec (decodeCmd c) s = .next { s with status := 0x0B#8 } ∧
    ∀ i ∈ [Instr.illegal10 c, .illegal20 c, .illegal40 c, .illegal80 c], exec i s = .next { s with status := 0x0B#8 }

/-- CSUM_RX (40_checksum R133): its code; the checksum of the next bytes, with the read pointer where it was and nothing else
changed but RES0, STATUS and CSUM_ACC; refused with no current frame, and where the range passes its end. -/
def Obligations.CsumRxResult : Prop :=
  encode .csumRx = [0x01#8] ∧
  ∀ s : State, s.held.op0 = true → s.held.op1 = true →
    let n := (s.op0.extractLsb' 0 16).toNat
    let seed := s.op1.extractLsb' 0 16
    (s.mem.rxf = none → exec .csumRx s = .refused .rxNoFrame) ∧
    ∀ f : List Byte, s.mem.rxf = some f →
      (f.length < s.mem.rp + n → exec .csumRx s = .refused .rxOutOfRange) ∧
      (s.mem.rp + n ≤ f.length →
        exec .csumRx s = .next { s with
          res0 := (csum (ahead s f n) seed).setWidth 32,
          csumAcc := BitVec.ofNat 32 (fold (accumulate (ahead s f n) seed)),
          held := { s.held with res0 := true, acc := true }, status := 0x00#8,
          trace := s.trace ++ [.linkComputeRxChecksum n seed (csum (ahead s f n) seed)] })

/-- CSUM_TX (40_checksum R134): its code; the checksum of bytes already written, with nothing changed but RES0, STATUS and
CSUM_ACC; refused where the range passes the write pointer. -/
def Obligations.CsumTxResult : Prop :=
  encode .csumTx = [0x02#8] ∧
  ∀ s : State, s.held.op0 = true → s.held.op1 = true → s.held.op2 = true →
    let o := (s.op0.extractLsb' 0 16).toNat
    let n := (s.op1.extractLsb' 0 16).toNat
    let seed := s.op2.extractLsb' 0 16
    let bytes := (s.mem.txbuf.drop o).take n
    (s.mem.txbuf.length < o + n → exec .csumTx s = .refused .txOutOfRange) ∧
    (o + n ≤ s.mem.txbuf.length →
      exec .csumTx s = .next { s with
        res0 := (csum bytes seed).setWidth 32, csumAcc := BitVec.ofNat 32 (fold (accumulate bytes seed)),
        held := { s.held with res0 := true, acc := true }, status := 0x00#8,
        trace := s.trace ++ [.linkComputeTxChecksum o n seed (csum bytes seed)] })

/-- PHCSUM (40_checksum R135): the pseudo-header sum of the operands, no call. -/
def Obligations.PhcsumResult : Prop :=
  ∀ s : State, s.held.op0 = true → s.held.op1 = true → s.held.op2 = true → s.held.op3 = true →
    let p := be32 s.op2 ++ be32 s.op3 ++ [0x00#8, s.op0.extractLsb' 0 8] ++ be16 (s.op1.extractLsb' 0 16)
    exec .phcsum s = .next { s with
      res0 := (BitVec.ofNat 16 (fold (accumulate p 0#16))).setWidth 32,
      csumAcc := BitVec.ofNat 32 (fold (accumulate p 0#16)),
      held := { s.held with res0 := true, acc := true }, status := 0x00#8 }

/-- SWAP16 (40_checksum R136): its code, its result, that it changes nothing but RES0 and STATUS, and that it is its own
inverse. -/
def Obligations.Swap16Result : Prop :=
  encode .swap16 = [0x04#8] ∧
  (∀ s : State, s.held.op0 = true →
    exec .swap16 s = .next { s with
      res0 := swapped16 s.op0, held := { s.held with res0 := true }, status := 0x00#8 }) ∧
  (∀ v : Word, swapped16 (swapped16 v) = (v.extractLsb' 0 16).setWidth 32)

/-- SWAP32 (40_checksum R137): its code, its result, that it changes nothing but RES0 and STATUS, and that it is its own
inverse. -/
def Obligations.Swap32Result : Prop :=
  encode .swap32 = [0x05#8] ∧
  (∀ s : State, s.held.op0 = true →
    exec .swap32 s = .next { s with
      res0 := (s.op0.extractLsb' 0 8 ++ s.op0.extractLsb' 8 8 ++ s.op0.extractLsb' 16 8 ++ s.op0.extractLsb' 24 8 :
        BitVec 32),
      held := { s.held with res0 := true }, status := 0x00#8 }) ∧
  (∀ v : Word, swapBytes32 (swapBytes32 v) = v)

/-- The broadcast test recognises these four addresses for a host, and no other (41_classifier R150, R151); for some
hosts some of the four coincide. The constants are the spec's defaults for its open parameters (log 14). -/
def Obligations.BroadcastFormsAtMostFour : Prop :=
  ∀ a host : Word, isBcast a host = true ↔
    a = 0xFFFFFFFF#32 ∨ a = host ||| 0x00FFFFFF#32 ∨ a = host ||| 0x0000FFFF#32 ∨ a = host ||| 0x000000FF#32

/-- CLASSIFY (41_classifier R152, R153): its code, and the first of the four tests that holds decides, and the mask
operand is ignored. The constants are the spec's defaults for its open parameters (log 14). -/
def Obligations.ClassifyResult : Prop :=
  encode .classify = [0x06#8] ∧
  ∀ (s : State) (code : Word), s.held.op0 = true → s.held.op1 = true → s.held.op2 = true →
    (s.op0 = s.op1 ∧ code = 0#32) ∨
    (s.op0 ≠ s.op1 ∧ s.op0 = 0#32 ∧ code = 1#32) ∨
    (s.op0 ≠ s.op1 ∧ s.op0 ≠ 0#32 ∧ bcastForm s.op0 s.op1 ∧ code = 2#32) ∨
    (s.op0 ≠ s.op1 ∧ ¬ bcastForm s.op0 s.op1 ∧ s.op0 = 0xE0000001#32 ∧ code = 3#32) ∨
    (¬ forUs s.op0 s.op1 ∧ code = 4#32) →
    exec .classify s = .next { s with res0 := code, held := { s.held with res0 := true }, status := 0x00#8 }

/-- IS_BCAST (41_classifier R154): its code, and 1 for the broadcast forms of the host operand, 0 for every other
address. The constants are the spec's defaults for its open parameters (log 14). -/
def Obligations.IsBcastResult : Prop :=
  encode .isBcast = [0x07#8] ∧
  ∀ (s : State) (r : Word), s.held.op0 = true → s.held.op1 = true →
    (bcastForm s.op0 s.op1 ∧ r = 1#32) ∨ (¬ bcastForm s.op0 s.op1 ∧ r = 0#32) →
    exec .isBcast s = .next { s with res0 := r, held := { s.held with res0 := true }, status := 0x00#8 }

/-- SAME_SUBNET (41_classifier R155): its code, and 1 exactly when the masked difference is zero. -/
def Obligations.SameSubnetResult : Prop :=
  encode .sameSubnet = [0x08#8] ∧
  ∀ s : State, s.held.op0 = true → s.held.op1 = true → s.held.op2 = true →
    exec .sameSubnet s = .next { s with
      res0 := if (s.op0 ^^^ s.op1) &&& s.op2 = 0#32 then 1#32 else 0#32,
      held := { s.held with res0 := true }, status := 0x00#8 }

/-- An operation whose operand register holds no value has no meaning: refused (10_state R35). -/
def Obligations.OperandWithoutValueRefused : Prop :=
  (∀ s : State, s.held.op0 = false →
    ∀ i ∈ [Instr.csumRx, .csumTx, .phcsum, .swap16, .swap32, .classify, .isBcast, .sameSubnet, .txStart, .txSend],
      exec i s = .refused (.registerHoldsNoValue 4)) ∧
  (∀ s : State, s.held.op0 = true → s.held.op1 = false →
    ∀ i ∈ [Instr.csumRx, .csumTx, .phcsum, .classify, .isBcast, .sameSubnet, .txStart],
      exec i s = .refused (.registerHoldsNoValue 5)) ∧
  (∀ s : State, s.held.op0 = true → s.held.op1 = true → s.held.op2 = false →
    ∀ i ∈ [Instr.csumTx, .phcsum, .classify, .sameSubnet], exec i s = .refused (.registerHoldsNoValue 6)) ∧
  (∀ s : State, s.held.op0 = true → s.held.op1 = true → s.held.op2 = true → s.held.op3 = false →
    exec .phcsum s = .refused (.registerHoldsNoValue 7))

/-! ### Receive pipeline -/

/-- Step 1 (42_receive R171): a header that does not sum to zero ends with CHECKSUM_INVALID; nothing but CSUM_ACC and
STATUS changes, and the read pointer stays at the header. The frame type 0x0800 as an instruction of its own, which is
covered beside RX_PARSE, is the model's choice (log 10). -/
def Obligations.RxRejectsBadHeaderSum : Prop :=
  ∀ (i : Instr) (s : State) (f : List Byte), receives i → s.hdrValid = false → s.mem.rxf = some f →
    s.mem.rp + 20 ≤ f.length → csum (ahead s f 20) 0#16 ≠ 0#16 →
    exec i s = .next { s with
      csumAcc := BitVec.ofNat 32 (fold (accumulate (ahead s f 20) 0#16)), held := { s.held with acc := true },
      trace := s.trace ++ [.linkComputeRxChecksum 20 0#16 (csum (ahead s f 20) 0#16)], status := 0x01#8 }

/-- Steps 3, 4, 5 and 7 in their order (42_receive R173 to R177, 60_exceptions R293): the first test that fails gives
the status; the read pointer is past the 20 header bytes, no collaborator is called, HDR_VALID is 0. The constants are
the spec's defaults for its open parameters (log 14). The frame type 0x0800 as an instruction of its own, which is
covered beside RX_PARSE, is the model's choice (log 10). -/
def Obligations.RxRejectionOrder : Prop :=
  ∀ (i : Instr) (s : State) (f : List Byte) (code : Byte), receives i → s.mem.rxf = some f →
    s.mem.rp + 20 ≤ f.length → csum (ahead s f 20) 0#16 = 0#16 →
    let h := loadHeader (ahead s f 20)
    (h.version ≠ 4#4 ∧ code = 0x02#8) ∨
    (h.version = 4#4 ∧ h.src = 0xFFFFFFFF#32 ∧ code = 0x03#8) ∨
    (h.version = 4#4 ∧ h.src ≠ 0xFFFFFFFF#32 ∧ ¬ forUs h.dst s.cfgAddr ∧ code = 0x04#8) ∨
    (h.version = 4#4 ∧ h.src ≠ 0xFFFFFFFF#32 ∧ forUs h.dst s.cfgAddr ∧ h.ihl.toNat < 5 ∧ code = 0x05#8) →
    ∃ t, exec i s = .next t ∧ endsAs (loadedState s (ahead s f 20)) code t

/-- Step 8 (42_receive R178): ihl above 5, with the options inside the frame, skips them and ends with
OPTIONS_UNSUPPORTED (RxRefusals says what happens where they pass its end). The constants are the spec's defaults for
its open parameters (log 14). The frame type 0x0800 as an instruction of its own, which is covered beside RX_PARSE, is
the model's choice (log 10). -/
def Obligations.RxSkipsOptions : Prop :=
  ∀ (i : Instr) (s : State) (f : List Byte), receives i → s.mem.rxf = some f →
    let h := loadHeader (ahead s f 20)
    s.mem.rp + h.ihl.toNat * 4 ≤ f.length → csum (ahead s f 20) 0#16 = 0#16 → h.version = 4#4 →
    h.src ≠ 0xFFFFFFFF#32 → forUs h.dst s.cfgAddr → 5 < h.ihl.toNat →
    let u := loadedState s (ahead s f 20)
    ∃ t, exec i s = .next t ∧
      endsAs { u with mem := { u.mem with rp := s.mem.rp + h.ihl.toNat * 4 },
                      trace := u.trace ++ [.linkDump (h.ihl.toNat * 4 - 20)] } 0x06#8 t

/-- Step 9 (42_receive R179): an accepted header of 20 bytes is dispatched on its protocol number, to the ICMP arm or
to the TCP arm, in the state that steps 1 and 2 leave. The constants are the spec's defaults for its open parameters
(log 14). That an arm, and the frame type 0x0800, is an instruction of its own is the model's choice (log 10). -/
def Obligations.RxDispatchesProtocol : Prop :=
  ∀ (i : Instr) (s : State) (f : List Byte), receives i → s.mem.rxf = some f → s.mem.rp + 20 ≤ f.length →
    csum (ahead s f 20) 0#16 = 0#16 →
    let h := loadHeader (ahead s f 20)
    h.version = 4#4 → h.src ≠ 0xFFFFFFFF#32 → forUs h.dst s.cfgAddr → h.ihl = 5#4 →
    (h.proto = 1#8 → exec i s = exec .protoIcmp (loadedState s (ahead s f 20))) ∧
    (h.proto = 6#8 → exec i s = exec .protoTcp (loadedState s (ahead s f 20)))

/-- Step 9, every other protocol (42_receive R182): a payload inside the frame is dumped and the operation ends with
SUCCESS (RxRefusals says what happens where it passes the end). The constants are the spec's defaults for its open
parameters (log 14). The frame type 0x0800 as an instruction of its own, which is covered beside RX_PARSE, is the
model's choice (log 10). -/
def Obligations.RxDiscardsOtherProtocols : Prop :=
  ∀ (i : Instr) (s : State) (f : List Byte), receives i → s.mem.rxf = some f →
    let h := loadHeader (ahead s f 20)
    s.mem.rp + h.len.toNat ≤ f.length → 20 ≤ h.len.toNat → csum (ahead s f 20) 0#16 = 0#16 → h.version = 4#4 →
    h.src ≠ 0xFFFFFFFF#32 → forUs h.dst s.cfgAddr → h.ihl = 5#4 → h.proto ≠ 1#8 → h.proto ≠ 6#8 →
    let u := loadedState s (ahead s f 20)
    ∃ t, exec i s = .next t ∧
      endsAs { u with mem := { u.mem with rp := s.mem.rp + h.len.toNat },
                      trace := u.trace ++ [.linkDump (h.len.toNat - 20)] } 0x00#8 t

/-- Step 9, ICMP arm (42_receive R180), on a loaded header: a datagram to `0.0.0.0` is dropped with SUCCESS and no
call; a payload that does not sum to zero ends with ICMP_CHECKSUM_INVALID; otherwise the header is handed to ICMP,
and when that returns the operation ends with SUCCESS. The arm as an instruction of its own is the model's choice
(log 10). What a collaborator does comes from a script, and it does nothing where none is pending: the model's choice
(log 6). -/
def Obligations.IcmpArmOutcomes : Prop :=
  ∀ (s : State) (n : Nat), s.hdrValid = true → s.hdr.len.toNat = s.hdr.ihl.toNat * 4 + n →
    (s.hdr.dst = 0#32 → ∃ t, exec .protoIcmp s = .next t ∧ endsAs s 0x00#8 t) ∧
    (∀ f : List Byte, s.hdr.dst ≠ 0#32 → s.mem.rxf = some f → s.mem.rp + n ≤ f.length →
      let c := csum (ahead s f n) 0#16
      let u := { s with
        csumAcc := BitVec.ofNat 32 (fold (accumulate (ahead s f n) 0#16)), held := { s.held with acc := true },
        trace := s.trace ++ [.linkComputeRxChecksum n 0#16 c] }
      (c ≠ 0#16 → ∃ t, exec .protoIcmp s = .next t ∧ endsAs u 0x07#8 t) ∧
      (c = 0#16 → ∀ v, collaboratorReturns { u with trace := u.trace ++ [.icmpReceive s.hdr] } v →
        ∃ t, exec .protoIcmp s = .next t ∧ endsAs v 0x00#8 t))

/-- Step 9, TCP arm (42_receive R181), on a loaded header: the payload is summed on top of the pseudo-header sum; a
segment that sums to zero and is addressed neither to `255.255.255.255` nor to `0.0.0.0` is handed over; every other
one is dropped with SUCCESS and no hand-off. The arm as an instruction of its own is the model's choice (log 10).
What a collaborator does comes from a script, and it does nothing where none is pending: the model's choice (log 6). -/
def Obligations.TcpArmOutcomes : Prop :=
  ∀ (s : State) (n : Nat) (f : List Byte), s.hdrValid = true → s.hdr.len.toNat = s.hdr.ihl.toNat * 4 + n →
    s.mem.rxf = some f → s.mem.rp + n ≤ f.length →
    let seed := phsum s.hdr.proto (BitVec.ofNat 16 n) s.hdr.src s.hdr.dst
    let c := csum (ahead s f n) seed
    let u := { s with
      csumAcc := BitVec.ofNat 32 (fold (accumulate (ahead s f n) seed)), held := { s.held with acc := true },
      trace := s.trace ++ [.linkComputeRxChecksum n seed c] }
    (c ≠ 0#16 ∨ s.hdr.dst = 0xFFFFFFFF#32 ∨ s.hdr.dst = 0#32 →
      ∃ t, exec .protoTcp s = .next t ∧ endsAs u 0x00#8 t) ∧
    (c = 0#16 → s.hdr.dst ≠ 0xFFFFFFFF#32 → s.hdr.dst ≠ 0#32 →
      ∀ v, collaboratorReturns { u with trace := u.trace ++ [.tcpRecv s.hdr.src n] } v →
        ∃ t, exec .protoTcp s = .next t ∧ endsAs v 0x00#8 t)

/-- Header byte 0 = 0x45 loads version 4 and ihl 5 and raises no status (30_encoding R90, R91). The meaning of this row by
itself is the model's choice (log 10). -/
def Obligations.AcceptedByte0LoadsVersionAndIhl : Prop :=
  ∀ s : State, exec .ipv4Byte0Accepted s = .next { s with hdr := { s.hdr with version := 4#4, ihl := 5#4 } }

/-- What RX_PARSE refuses by itself: no frame, fewer than 20 bytes (42_receive R187, 20_memory R74), options past the
end of the frame (R178), a total length below the header length, and a payload that passes the end of the frame, in
each arm that looks at it (R179, 93 U1, U3); the ICMP arm does not look at the payload of a datagram to `0.0.0.0`
(R180). The constants are the spec's defaults for its open parameters (log 14). The frame type 0x0800 as an
instruction of its own, which is covered beside RX_PARSE, is the model's choice (log 10). -/
def Obligations.RxRefusals : Prop :=
  ∀ (i : Instr) (s : State), receives i →
    (s.mem.rxf = none → exec i s = .refused .rxNoFrame) ∧
    (∀ f, s.mem.rxf = some f → f.length < s.mem.rp + 20 → exec i s = .refused .rxOutOfRange) ∧
    (∀ f, s.mem.rxf = some f → s.mem.rp + 20 ≤ f.length → csum (ahead s f 20) 0#16 = 0#16 →
      let h := loadHeader (ahead s f 20)
      h.version = 4#4 → h.src ≠ 0xFFFFFFFF#32 → forUs h.dst s.cfgAddr →
      (5 < h.ihl.toNat → f.length < s.mem.rp + h.ihl.toNat * 4 → exec i s = .refused .rxOutOfRange) ∧
      (h.ihl = 5#4 → h.len.toNat < 20 → exec i s = .refused .totalLengthBelowHeader) ∧
      (h.ihl = 5#4 → 20 ≤ h.len.toNat → f.length < s.mem.rp + h.len.toNat → h.proto ≠ 1#8 ∨ h.dst ≠ 0#32 →
        exec i s = .refused .rxOutOfRange))

/-- What is never handed over (42_receive R186): a header length other than 20 bytes is never accepted with SUCCESS
and never dispatched, and a TCP segment to the limited broadcast address is never forwarded, whatever its checksum.
The constants are the spec's defaults for its open parameters (log 14). The frame type 0x0800 as an instruction of its
own, which is covered beside RX_PARSE, is the model's choice (log 10). -/
def Obligations.NeverHandedOver : Prop :=
  ∀ (i : Instr) (s t : State) (f : List Byte), receives i → s.mem.rxf = some f → exec i s = .next t →
    let h := loadHeader (ahead s f 20)
    (h.ihl ≠ 5#4 → t.status ≠ 0x00#8) ∧
    (h.ihl ≠ 5#4 ∨ (h.proto = 6#8 ∧ h.dst = 0xFFFFFFFF#32) →
      ∃ calls, t.trace = s.trace ++ calls ∧ ∀ e ∈ calls, handsOver e = false)

/-- After RX_PARSE the HDR_* registers cannot be read (10_state R25, 93 U8; log 24). The frame type 0x0800 as an
instruction of its own, which is covered beside RX_PARSE, is the model's choice (log 10). -/
def Obligations.HeaderUnreadableAfterReceive : Prop :=
  ∀ (i : Instr) (s t : State) (n : Nat), receives i → exec i s = .next t → 16 ≤ n → n ≤ 26 →
    readRegister n t = .refused (.registerHoldsNoValue n)

/-- Receiving reads neither CFG_MASK nor CFG_GW (42_receive R188): with other values there, and collaborators that do
nothing, the same happens. What a collaborator does comes from a script, and it does nothing where none is pending:
the model's choice (log 6). The frame type 0x0800 as an instruction of its own, which is covered beside RX_PARSE, is
the model's choice (log 10). -/
def Obligations.ReceiveIgnoresMaskAndGateway : Prop :=
  ∀ (i : Instr) (s : State) (mask gw : Word), receives i → s.env.handoffs = [] →
    (∀ t, exec i s = .next t →
      exec i { s with cfgMask := mask, cfgGw := gw } = .next { t with cfgMask := mask, cfgGw := gw }) ∧
    (∀ r, exec i s = .refused r → exec i { s with cfgMask := mask, cfgGw := gw } = .refused r)

/-! ### Transmit pipeline -/

/-- TX_START refuses with TX_REFUSED (43_transmit R201): no call, nothing written but TX_ACTIVE and STATUS. The
constants are the spec's defaults for its open parameters (log 14). The set of sourceless protocols is open (log 16).
-/
def Obligations.TxStartRefusesUnusableHost : Prop :=
  ∀ s : State, s.held.op0 = true → s.held.op1 = true → ¬ mayStart s (s.op1.extractLsb' 0 8) →
    exec .txStart s = .next { s with txActive := false, status := 0x0A#8 }

/-- TX_START on a cache miss (43_transmit R203, R204): the resolution target is looked up and requested, and the
status is RESOLUTION_PENDING, whatever status the request answers (45_interfaces R265); nothing is written but
TX_ACTIVE and STATUS. The constants are the spec's defaults for its open parameters (log 14). The answers are those
listed in the state (log 5), and the request's is a byte (log 17). -/
def Obligations.TxStartPendingOnMiss : Prop :=
  ∀ (s : State) (rest : List (Option LinkAddr)) (status : Byte) (later : List Byte), s.held.op0 = true → s.held.op1 = true →
    mayStart s (s.op1.extractLsb' 0 8) → ¬ bcastForm s.op0 s.cfgAddr → s.env.lookup = none :: rest →
    s.env.request = status :: later →
    exec .txStart s = .next { s with
      txActive := false, status := 0x08#8, env := { s.env with lookup := rest, request := later },
      trace := s.trace ++ [.arpLookup (hop s s.op0) none, .arpRequest (hop s s.op0) status] }

/-- TX_START when `link.writeStart` fails (43_transmit R205, R207): LINK_ERROR, no template byte, TX_ACTIVE 0. What TX
space and TX_LINK_TARGET then hold is free (log 4, log 12). The constants are the spec's defaults for its open
parameters (log 14). The answers are those listed in the state (log 5). -/
def Obligations.TxStartLinkError : Prop :=
  ∀ (s : State) (target : LinkAddr) (env : Env) (calls : List Event) (rest : List Bool),
    s.held.op0 = true → s.held.op1 = true → mayStart s (s.op1.extractLsb' 0 8) →
    resolves s s.op0 target env calls → s.env.writeStart = false :: rest →
    ∃ t, exec .txStart s = .next t ∧
      { t with mem := { t.mem with txbuf := s.mem.txbuf }, txLinkTarget := s.txLinkTarget, free := s.free } =
      { s with
        txActive := false, status := 0x09#8, env := { env with writeStart := rest },
        trace := s.trace ++ calls ++ [.linkWriteStart target 0x0800#16 false] }

/-- TX_START succeeds (43_transmit R202 to R206): link header and template in TX space, the datagram recorded,
TX_ACTIVE 1, and nothing else changed. The constants are the spec's defaults for its open parameters (log 14). So are
the template's (log 15). The answers are those listed in the state (log 5). -/
def Obligations.TxStartEmitsTemplate : Prop :=
  ∀ (s : State) (target : LinkAddr) (env : Env) (calls : List Event) (rest : List Bool),
    s.held.op0 = true → s.held.op1 = true → mayStart s (s.op1.extractLsb' 0 8) →
    resolves s s.op0 target env calls → s.env.writeStart = true :: rest →
    let p := s.op1.extractLsb' 0 8
    ∃ t, exec .txStart s = .next t ∧ t.mem.txbuf.length = 34 ∧ t.mem.txbuf.drop 14 = template s.cfgAddr s.op0 p ∧
      t.mem.txbuf.take 6 = linkBytes target ∧ (t.mem.txbuf.drop 12).take 2 = [0x08#8, 0x00#8] ∧
      { t with mem := { t.mem with txbuf := s.mem.txbuf }, txLinkTarget := s.txLinkTarget, free := s.free } =
      { s with
        txActive := true, status := 0x00#8, env := { env with writeStart := rest },
        txSrc := s.cfgAddr, txDst := s.op0, txProto := p, txStartPos := 14#16, held := { s.held with tx := true },
        trace := s.trace ++ calls ++ [.linkWriteStart target 0x0800#16 true] ++ templateWrites s.cfgAddr s.op0 p }

/-- TX_SEND (43_transmit R208): length patched, checksum of the 20 header bytes patched, frame sent; the status is
that of `link.send`, TX_ACTIVE is 0, and nothing else but TX space and CSUM_ACC changes. The answers are those listed
in the state (log 5). `mem.sent` is the model's record of what was handed to the medium (log 20); TX space afterwards
is free (log 12). -/
def Obligations.TxSendResult : Prop :=
  ∀ (s : State) (ok : Bool) (rest : List Bool), sendReady s → s.env.send = ok :: rest →
    let p := s.txStartPos.toNat
    let l := BitVec.ofNat 16 (20 + (s.op0.extractLsb' 0 16).toNat)
    let c := csum (summedHeader s) 0#16
    ∃ t, exec .txSend s = .next t ∧ t.mem.sent = s.mem.sent ++ [(sentFrame s, ok)] ∧
      { t with mem := s.mem, free := s.free } =
      { s with
        txActive := false, status := if ok then 0x00#8 else 0x09#8, env := { s.env with send := rest },
        csumAcc := BitVec.ofNat 32 (fold (accumulate (summedHeader s) 0#16)), held := { s.held with acc := true },
        trace := s.trace ++ [.linkInsert (be16 l) 2 (p + 2), .linkComputeTxChecksum p 20 0#16 c,
          .linkInsert (be16 c) 2 (p + 10), .linkSend ok] } ∧
      t.mem.rxq = s.mem.rxq ∧ t.mem.rxf = s.mem.rxf ∧ t.mem.rp = s.mem.rp

/-- TX_SEND changes no byte of the outbound frame but the two of the total length and the two of the header checksum,
and the frame's length is as it was (43_transmit R208, 20_memory R67). `mem.sent` is the model's record of what was
handed to the medium (log 20). -/
def Obligations.TxSendPatchesFourBytes : Prop :=
  ∀ s t : State, sendReady s → exec .txSend s = .next t →
    ∃ frame ok, t.mem.sent = s.mem.sent ++ [(frame, ok)] ∧ frame.length = s.mem.wp ∧
      ∀ o, o ≠ s.txStartPos.toNat + 2 → o ≠ s.txStartPos.toNat + 3 → o ≠ s.txStartPos.toNat + 10 →
        o ≠ s.txStartPos.toNat + 11 → frame[o]? = s.mem.txByte o

/-- Where TX_SEND has no meaning (43_transmit R208, 20_memory R74): no datagram is being built, 20 + L does not fit 16 bits,
or TX space does not hold the 20 header bytes that it patches. -/
def Obligations.TxSendRefusals : Prop :=
  ∀ s : State, s.held.op0 = true →
    (s.txActive = false → exec .txSend s = .refused .sendWithoutStart) ∧
    (s.txActive = true → 65515 < (s.op0.extractLsb' 0 16).toNat → exec .txSend s = .refused .payloadTooLong) ∧
    (s.txActive = true → (s.op0.extractLsb' 0 16).toNat ≤ 65515 → s.mem.txbuf.length < s.txStartPos.toNat + 20 →
      exec .txSend s = .refused .txOutOfRange)

/-- Start, payload, Send (43_transmit R209): after a TX_START that returned SUCCESS, any payload and any length
operand up to 65515, TX_SEND completes, and the frame it sends carries that length and a header that sums to zero. The
offsets 14, 16 and 34 rest on LINK_HDR_LEN, the spec's default for an open parameter (log 14). `mem.sent` is the
model's record of what was handed to the medium (log 20). -/
def Obligations.TransmitRoundTrip : Prop :=
  ∀ (s t : State) (payload : List Byte) (v : Word), exec .txStart s = .next t → t.status = 0x00#8 →
    (v.extractLsb' 0 16).toNat ≤ 65515 →
    ∃ u frame ok,
      exec .txSend { t with op0 := v, mem := { t.mem with txbuf := t.mem.txbuf ++ payload } } = .next u ∧
      u.mem.sent = t.mem.sent ++ [(frame, ok)] ∧ frame.drop 34 = payload ∧
      (frame.drop 16).take 2 = be16 (BitVec.ofNat 16 (20 + (v.extractLsb' 0 16).toNat)) ∧
      csum ((frame.drop 14).take 20) 0#16 = 0x0000#16

/-! ### Event loop -/

/-- FRAME_DEMUX with nothing queued (44_event_loop R232): no frame is taken. -/
def Obligations.FrameDemuxEmptyQueue : Prop :=
  ∀ s : State, s.mem.rxq = [] →
    exec .frameDemux s = .next { s with
      res0 := 0#32, held := { s.held with res0 := true }, status := 0x00#8,
      trace := s.trace ++ [.linkPacketReady false] }

/-- FRAME_DEMUX with a frame (44_event_loop R232 to R234): the frame is taken, dispatched on its type to the ARP arm
or to the IPv4 arm, or to none, and flushed. The constants are the spec's defaults for its open parameters (log 14).
That an arm is an instruction of its own is the model's choice (log 10). The ARP and IPv4 clauses hold for every
script of a collaborator (log 6), so also where it has flushed the frame, or taken another, inside its hand-off; that
it may (log 29), and that FRAME_DEMUX's own flush with no current frame then goes on (log 30), are the model's choice. -/
def Obligations.FrameDemuxDispatchesType : Prop :=
  ∀ (s : State) (f : List Byte) (rest : List (List Byte)), s.mem.rxq = f :: rest → 14 ≤ f.length →
    (typeField f = 0x0806#16 → ∀ u, exec .etypeArp (frameTaken s f rest) = .next u →
      exec .frameDemux s = .next (frameFlushed u 0x0806#16)) ∧
    (typeField f = 0x0800#16 → ∀ u, exec .etypeIpv4 (frameTaken s f rest) = .next u →
      exec .frameDemux s = .next (frameFlushed u 0x0800#16)) ∧
    (typeField f ≠ 0x0806#16 → typeField f ≠ 0x0800#16 →
      exec .frameDemux s = .next { frameFlushed (frameTaken s f rest) (typeField f) with status := 0x00#8 })

/-- A taken frame is always released (44_event_loop R234): whatever its content and whatever the collaborators do,
when FRAME_DEMUX ends no frame is current and the flush is the last call; with collaborators that do nothing, exactly
that frame is gone from the queue. What a collaborator does comes from a script, and it does nothing where none is
pending: the model's choice (log 6). So is that a script may flush the frame, or take another, inside the hand-off
(log 29), and that FRAME_DEMUX's own flush with no current frame then goes on (log 30). -/
def Obligations.FrameDemuxAlwaysReleases : Prop :=
  ∀ (s t : State) (f : List Byte) (rest : List (List Byte)), s.mem.rxq = f :: rest → exec .frameDemux s = .next t →
    t.mem.rxf = none ∧ t.trace.getLast? = some .linkFlush ∧ (s.env.handoffs = [] → t.mem.rxq = rest)

/-- The ARP arm (44_event_loop R233 (1)): the frame is handed to neighbor resolution, and the status is SUCCESS. The
arm as an instruction of its own is the model's choice (log 10). What a collaborator does comes from a script, and it
does nothing where none is pending: the model's choice (log 6). -/
def Obligations.ArpFrameHandedOver : Prop :=
  ∀ s u : State, collaboratorReturns { s with trace := s.trace ++ [.arpReceive] } u →
    exec .etypeArp s = .next { u with status := 0x00#8 }

/-- TIMER_SVC (44_event_loop R235 to R238), with collaborators that do nothing: one clock value decides both arms,
each arm that is due calls its collaborator once and replaces its snapshot by that value, and RES0 says which fired.
What a collaborator does comes from a script, and it does nothing where none is pending: the model's choice (log 6).
The answers are those listed in the state (log 5). -/
def Obligations.TimerSvcResult : Prop :=
  ∀ (s : State) (now : Word) (rest : List Word) (arp tcp : Bool), s.held.timers = true → s.env.handoffs = [] →
    s.env.clock = now :: rest → (arp = true ↔ due now s.arpTimer 10) → (tcp = true ↔ due now s.tcpTimer 1) →
    exec .timerSvc s = .next { s with
      env := { s.env with clock := rest },
      trace := s.trace ++ [.clockNow now] ++ (if arp then [.arpUpdate] else []) ++ (if tcp then [.tcpUpdate] else []),
      arpTimer := if arp then now else s.arpTimer, tcpTimer := if tcp then now else s.tcpTimer,
      res0 := (if tcp then 4#32 else 0#32) + (if arp then 2#32 else 0#32), held := { s.held with res0 := true },
      status := 0x00#8 }

/-- What the event loop refuses by itself: FRAME_DEMUX, and NET_TICK, on a frame shorter than the link header
(44_event_loop R232, 20_memory R74), and, before NET_INIT, since the timers hold no value, TIMER_SVC, and NET_TICK
whatever is queued or arrives (44_event_loop R230, R235, log 24); the reason is the timers' where step 2 of the tick
has run. The 14 is LINK_HDR_LEN, the spec's default for an open parameter (log 14). What a collaborator does comes
from a script: the model's choice (log 6). -/
def Obligations.EventLoopRefusals : Prop :=
  (∀ (s : State) (f : List Byte) (rest : List (List Byte)), s.mem.rxq = f :: rest → f.length < 14 →
    exec .frameDemux s = .refused .rxOutOfRange) ∧
  (∀ (s : State) (frames : List (List Byte)) (later : List (List (List Byte))) (f : List Byte) (rest : List (List Byte)),
    nextArrivals s frames later → s.mem.rxq ++ frames = f :: rest → f.length < 14 →
    exec .netTick s = .refused .rxOutOfRange) ∧
  (∀ s : State, s.held.timers = false → exec .timerSvc s = .refused (.registerHoldsNoValue 40)) ∧
  (∀ s : State, s.held.timers = false → ∃ r, exec .netTick s = .refused r) ∧
  (∀ (s : State) (frames : List (List Byte)) (later : List (List (List Byte))), s.held.timers = false →
    nextArrivals s frames later → s.mem.rxq ++ frames = [] → exec .netTick s = .refused (.registerHoldsNoValue 40)) ∧
  (∀ (s u : State) (frames : List (List Byte)) (later : List (List (List Byte))), s.held.timers = false →
    nextArrivals s frames later → exec .frameDemux (eventsHandled s frames later) = .next u →
    exec .netTick s = .refused (.registerHoldsNoValue 40))

/-- NET_TICK with nothing received (44_event_loop R230): event handler, empty queue, timer service, in that order,
with collaborators that do nothing. What a collaborator does comes from a script, and it does nothing where none is
pending: the model's choice (log 6). The answers are those listed in the state (log 5). -/
def Obligations.NetTickWithoutFrame : Prop :=
  ∀ (s : State) (now : Word) (rest : List Word) (arp tcp : Bool), s.held.timers = true → s.env.handoffs = [] →
    s.env.clock = now :: rest → s.mem.rxq = [] → s.env.arrivals = [] →
    (arp = true ↔ due now s.arpTimer 10) → (tcp = true ↔ due now s.tcpTimer 1) →
    exec .netTick s = .next { s with
      env := { s.env with clock := rest },
      trace := s.trace ++ [.linkEventHandler, .linkPacketReady false, .clockNow now] ++
        (if arp then [.arpUpdate] else []) ++ (if tcp then [.tcpUpdate] else []),
      arpTimer := if arp then now else s.arpTimer, tcpTimer := if tcp then now else s.tcpTimer,
      res0 := (if tcp then 4#32 else 0#32) + (if arp then 2#32 else 0#32), held := { s.held with res0 := true },
      status := 0x00#8 }

/-- NET_TICK is its three steps (44_event_loop R230): the event handler, then what FRAME_DEMUX does, then what
TIMER_SVC does, whatever status FRAME_DEMUX ended with; that status is the tick's, and RES0 joins the two results.
Collaborators do nothing here, so that they do not see the RES0 and STATUS that only the separate operations write in
between. What a collaborator does comes from a script, and it does nothing where none is pending: the model's choice
(log 6). -/
def Obligations.NetTickIsThreeSteps : Prop :=
  ∀ (s u v : State) (frames : List (List Byte)) (rest : List (List (List Byte))), s.env.handoffs = [] →
    nextArrivals s frames rest → exec .frameDemux (eventsHandled s frames rest) = .next u →
    exec .timerSvc u = .next v →
    exec .netTick s = .next { v with res0 := u.res0 ||| v.res0, status := u.status }

/-- NET_INIT (44_event_loop R239), with collaborators that do nothing: both are initialised, both timers hold the one
clock value, and TX_ACTIVE and HDR_VALID are 0. What a collaborator does comes from a script, and it does nothing
where none is pending: the model's choice (log 6). The answers are those listed in the state (log 5). -/
def Obligations.NetInitResult : Prop :=
  ∀ (s : State) (now : Word) (rest : List Word), s.env.handoffs = [] → s.env.clock = now :: rest →
    ∃ t, exec .netInit s = .next t ∧
      endsAs { s with
        env := { s.env with clock := rest }, trace := s.trace ++ [.arpInit, .tcpInit, .clockNow now],
        arpTimer := now, tcpTimer := now, held := { s.held with timers := true }, txActive := false } 0x00#8 t

/-! ### Outside agents -/

/-- Register accesses by outside agents (10_state R20, R34, R35, 93 U12): they may write CFG_ADDR to OP3 only, which
changes that register and nothing else; every other register and every number that names none is refused, with the
reason. Each register answers its own value: HDR_VERSION to HDR_DST while HDR_VALID is 1, the operands, RES0, the TX_*
registers, the timers and CSUM_ACC once they have been written, TX_LINK_TARGET never (R27), the others always; a
register that holds no value is not read (log 24). That a read answers with the value zero-extended is the model's
form (log 22). -/
def Obligations.OutsideAccessByRegister : Prop :=
  (∀ (n : Nat) (v : Word) (s : State),
    (¬ existingRegister n →
      writeRegister n v s = .refused (.noSuchRegister n) ∧ readRegister n s = .refused (.noSuchRegister n)) ∧
    (existingRegister n → ¬ outsideRegister n → writeRegister n v s = .refused (.blockOwnedRegister n)) ∧
    (outsideRegister n → n ≠ 3 → ∃ t, writeRegister n v s = .next t ∧ readRegister n t = .next (v.setWidth 48) ∧
      (∀ m, m ≠ n → readRegister m t = readRegister m s) ∧
      { t with
        cfgAddr := s.cfgAddr, cfgMask := s.cfgMask, cfgGw := s.cfgGw, op0 := s.op0, op1 := s.op1, op2 := s.op2,
        op3 := s.op3, held := s.held } = s)) ∧
  ∀ s : State,
    (readsAs s 0 true s.cfgAddr ∧ readsAs s 1 true s.cfgMask ∧ readsAs s 2 true s.cfgGw ∧ readsAs s 3 true s.cmd) ∧
    (readsAs s 4 s.held.op0 s.op0 ∧ readsAs s 5 s.held.op1 s.op1 ∧ readsAs s 6 s.held.op2 s.op2 ∧
      readsAs s 7 s.held.op3 s.op3 ∧ readsAs s 8 s.held.res0 s.res0 ∧ readsAs s 9 true s.status) ∧
    (readsAs s 16 s.hdrValid s.hdr.version ∧ readsAs s 17 s.hdrValid s.hdr.ihl ∧ readsAs s 18 s.hdrValid s.hdr.tos ∧
      readsAs s 19 s.hdrValid s.hdr.len ∧ readsAs s 20 s.hdrValid s.hdr.ident ∧
      readsAs s 21 s.hdrValid s.hdr.flagsFrag ∧ readsAs s 22 s.hdrValid s.hdr.ttl ∧
      readsAs s 23 s.hdrValid s.hdr.proto ∧ readsAs s 24 s.hdrValid s.hdr.csum ∧ readsAs s 25 s.hdrValid s.hdr.src ∧
      readsAs s 26 s.hdrValid s.hdr.dst ∧ readsAs s 27 true (BitVec.ofBool s.hdrValid)) ∧
    (readsAs s 32 s.held.tx s.txSrc ∧ readsAs s 33 s.held.tx s.txDst ∧ readsAs s 34 s.held.tx s.txProto ∧
      readsAs s 35 true (BitVec.ofBool s.txActive) ∧ readsAs s 36 s.held.tx s.txStartPos ∧
      readsAs s 37 false s.txLinkTarget) ∧
    (readsAs s 40 s.held.timers s.arpTimer ∧ readsAs s 41 s.held.timers s.tcpTimer ∧ readsAs s 48 s.held.acc s.csumAcc)

/-- What a collaborator does inside a hand-off (20_memory R76, 93 U9, U17): its actions run one after another, each as
`nestedAction` says, and the first that is refused refuses the whole; it may transmit, and RX_PARSE, FRAME_DEMUX,
NET_TICK, NET_INIT and configuration writes are refused. Scripts are the model's form of the collaborators' behaviour
(log 6); that the other operations run there (log 7), the refusal of configuration writes (log 23) and that its
link-layer calls run unrefused (log 29) and that it may read every register that holds a value (log 32) are the
model's too. -/
def Obligations.NestedOperations : Prop :=
  (∀ s : State, s.env.handoffs = [] → collaborate s = .next s) ∧
  (∀ (s : State) (later : List (List Input)), s.env.handoffs = [] :: later →
    collaborate s = .next { s with env := { s.env with handoffs := later } }) ∧
  (∀ (s : State) (a : Input) (script : List Input) (later : List (List Input)), s.env.handoffs = (a :: script) :: later →
    let o := nestedAction a { s with env := { s.env with handoffs := later } }
    (∀ t, o = .next t →
      collaborate s = collaborate { t with env := { t.env with handoffs := script :: t.env.handoffs } }) ∧
    (∀ r, o = .refused r → collaborate s = .refused r))

/-- The link layer's buffers under an outside agent's calls (20_memory R62, R63, R66, R74; 45_interfaces R251 to
R262): `readBlock` and `dump` consume bytes, and are refused with no current frame and past its end; `packetReady` and
`getReadPointer` answer and consume nothing; `nextPacketUpdate` takes the head of RXQ (refused where there is none:
log 27) and `flush` releases the frame (a no-op where there is none: log 30); appended bytes go to the write pointer
in network order; `insert` overwrites its range and no other byte, and is refused past the write pointer; `writeStart`
begins a frame of 14 bytes, and after it fails, and after `send`, TX space is free (log 12). The answers of the last
two are those listed in the state (log 5); `answer` and `mem.sent` are the model's records (log 22, log 20), and the
link header's size and fields the spec's defaults (log 14). -/
def Obligations.LinkCallsOnBuffers : Prop :=
  (∀ (s : State) (n : Half), s.mem.rxf = none → ∀ c ∈ [LinkCall.readBlock n, .dump n, .getReadPointer],
    outsideLink c s = .refused .rxNoFrame) ∧
  (∀ (s : State) (f : List Byte) (n : Half), s.mem.rxf = some f →
    (f.length < s.mem.rp + n.toNat → ∀ c ∈ [LinkCall.readBlock n, .dump n], outsideLink c s = .refused .rxOutOfRange) ∧
    (s.mem.rp + n.toNat ≤ f.length →
      outsideLink (.readBlock n) s =
        .next { s with answer := .bytes (ahead s f n.toNat), mem := { s.mem with rp := s.mem.rp + n.toNat } } ∧
      outsideLink (.dump n) s = .next { s with mem := { s.mem with rp := s.mem.rp + n.toNat } } ∧
      outsideLink .getReadPointer s = .next { s with answer := .offset s.mem.rp })) ∧
  (∀ s : State, outsideLink .packetReady s = .next { s with answer := .flag (decide (s.mem.rxq ≠ [])) } ∧
    outsideLink .flush s = .next { s with mem := { s.mem with rxf := none } } ∧
    (s.mem.rxq = [] → outsideLink .nextPacketUpdate s = .refused .rxQueueEmpty) ∧
    ∀ f rest, s.mem.rxq = f :: rest →
      outsideLink .nextPacketUpdate s = .next { s with mem := { s.mem with rxq := rest, rxf := some f, rp := 0 } }) ∧
  (∀ (s : State) (b : Byte) (h : Half) (v : Word),
    outsideLink (.write8 b) s = .next { s with mem := { s.mem with txbuf := s.mem.txbuf ++ [b] } } ∧
    outsideLink (.write16 h) s = .next { s with mem := { s.mem with txbuf := s.mem.txbuf ++ be16 h } } ∧
    outsideLink (.write32 v) s = .next { s with mem := { s.mem with txbuf := s.mem.txbuf ++ be32 v } }) ∧
  (∀ (s : State) (bs : List Byte) (o : Half),
    (s.mem.wp < o.toNat + bs.length → outsideLink (.insert bs o) s = .refused .txOutOfRange) ∧
    (o.toNat + bs.length ≤ s.mem.wp →
      ∃ m, outsideLink (.insert bs o) s = .next { s with mem := m } ∧ m.wp = s.mem.wp ∧
        m.rxq = s.mem.rxq ∧ m.rxf = s.mem.rxf ∧ m.rp = s.mem.rp ∧ m.sent = s.mem.sent ∧
        (∀ k, k < bs.length → m.txByte (o.toNat + k) = bs[k]?) ∧
        (∀ a, a < o.toNat ∨ o.toNat + bs.length ≤ a → m.txByte a = s.mem.txByte a))) ∧
  (∀ (s : State) (target : LinkAddr) (t : Half) (ok : Bool) (rest : List Bool), s.env.writeStart = ok :: rest →
    ∃ buf n, outsideLink (.writeStart target t) s =
        .next { s with
          answer := .flag ok, env := { s.env with writeStart := rest }, free := n, mem := { s.mem with txbuf := buf } } ∧
      (ok = true → buf.length = 14 ∧ buf.take 6 = linkBytes target ∧ buf.drop 12 = be16 t)) ∧
  (∀ (s : State) (ok : Bool) (rest : List Bool), s.env.send = ok :: rest →
    ∃ buf n, outsideLink .send s =
      .next { s with
        answer := .flag ok, env := { s.env with send := rest }, free := n,
        mem := { s.mem with txbuf := buf, sent := s.mem.sent ++ [(s.mem.txbuf, ok)] } })
end

