-- ==== Sys2Proof/Laws/Arith.lean ====
section
/-! SUPPORT. Bounds and shapes of the checksum arithmetic, for the statements about checksums. -/

namespace Sys2Proof.Machine

/-- One pass of the end-around carry, in arithmetic: the low half plus the carry. -/
theorem foldPass_eq (a : Nat) : foldPass a = a % 65536 + a / 65536 := by
  unfold foldPass
  have h : a &&& 0xFFFF = a % 65536 := Nat.and_two_pow_sub_one_eq_mod a 16
  rw [Nat.shiftRight_eq_div_pow, h]
  split <;> omega

/-- `fold` in arithmetic. -/
theorem fold_eq (a : Nat) :
    fold a = (a % 65536 + a / 65536) % 65536 + (a % 65536 + a / 65536) / 65536 := by
  simp only [fold, foldPass_eq]

/-- `fold` of an accumulator value fits 16 bits. -/
theorem fold_le {a : Nat} (h : a < 2 ^ 32) : fold a ≤ 0xFFFF := by rw [fold_eq]; omega

/-- A range of `n` bytes sums to at most `(n + 1) / 2` words of 0xFFFF. -/
theorem wordSum_le : ∀ bs : List Byte, wordSum bs ≤ (bs.length + 1) / 2 * 65535
  | [] => by simp [wordSum]
  | [b] => by have := b.isLt; simp [wordSum]; omega
  | b0 :: b1 :: rest => by
    have h0 := b0.isLt
    have h1 := b1.isLt
    have ih := wordSum_le rest
    simp only [wordSum, List.length_cons]
    omega

/-- A range that the interface can express does not reach 2^32 (40_checksum R138). -/
theorem accumulate_lt {bs : List Byte} (h : bs.length ≤ 65535) (seed : Half) : accumulate bs seed < 2 ^ 32 := by
  have := wordSum_le bs
  have := seed.isLt
  unfold accumulate
  omega

/-- CSUM_ACC gets a 16-bit value (10_state R29). -/
theorem foldedSum_le {bs : List Byte} (h : bs.length ≤ 65535) (seed : Half) : foldedSum bs seed ≤ 0xFFFF :=
  fold_le (accumulate_lt h seed)

/-- A range is summed piecewise where the first piece has an even length. -/
theorem wordSum_append : ∀ (a b : List Byte), a.length % 2 = 0 → wordSum (a ++ b) = wordSum a + wordSum b
  | [], b, _ => by simp [wordSum]
  | [_], _, h => by simp at h
  | x :: y :: rest, b, h => by
    have ih := wordSum_append rest b (by simp at h; omega)
    simp only [List.cons_append, wordSum, ih]
    omega

/-- The pseudo-header has 12 bytes. -/
theorem pseudoHeader_length (p : Byte) (n : Half) (src dst : Word) : (pseudoHeader p n src dst).length = 12 := by
  simp [pseudoHeader, be32, be16]

end Sys2Proof.Machine
end

