-- ==== Sys2Proof/Laws/State.lean ====
section
/-! SUPPORT. One lemma per field of State for each named update, so that no proof unfolds a record update. -/

namespace Sys2Proof.Machine

variable (s : State)

@[simp] theorem setStatus_cfgAddr (st : Status) : (setStatus st s).cfgAddr = s.cfgAddr := rfl
@[simp] theorem setStatus_cfgMask (st : Status) : (setStatus st s).cfgMask = s.cfgMask := rfl
@[simp] theorem setStatus_cfgGw (st : Status) : (setStatus st s).cfgGw = s.cfgGw := rfl
@[simp] theorem setStatus_cmd (st : Status) : (setStatus st s).cmd = s.cmd := rfl
@[simp] theorem setStatus_op0 (st : Status) : (setStatus st s).op0 = s.op0 := rfl
@[simp] theorem setStatus_op1 (st : Status) : (setStatus st s).op1 = s.op1 := rfl
@[simp] theorem setStatus_op2 (st : Status) : (setStatus st s).op2 = s.op2 := rfl
@[simp] theorem setStatus_op3 (st : Status) : (setStatus st s).op3 = s.op3 := rfl
@[simp] theorem setStatus_res0 (st : Status) : (setStatus st s).res0 = s.res0 := rfl
@[simp] theorem setStatus_status (st : Status) : (setStatus st s).status = statusCode st := rfl
@[simp] theorem setStatus_hdr (st : Status) : (setStatus st s).hdr = s.hdr := rfl
@[simp] theorem setStatus_hdrValid (st : Status) : (setStatus st s).hdrValid = s.hdrValid := rfl
@[simp] theorem setStatus_txSrc (st : Status) : (setStatus st s).txSrc = s.txSrc := rfl
@[simp] theorem setStatus_txDst (st : Status) : (setStatus st s).txDst = s.txDst := rfl
@[simp] theorem setStatus_txProto (st : Status) : (setStatus st s).txProto = s.txProto := rfl
@[simp] theorem setStatus_txActive (st : Status) : (setStatus st s).txActive = s.txActive := rfl
@[simp] theorem setStatus_txStartPos (st : Status) : (setStatus st s).txStartPos = s.txStartPos := rfl
@[simp] theorem setStatus_txLinkTarget (st : Status) : (setStatus st s).txLinkTarget = s.txLinkTarget := rfl
@[simp] theorem setStatus_arpTimer (st : Status) : (setStatus st s).arpTimer = s.arpTimer := rfl
@[simp] theorem setStatus_tcpTimer (st : Status) : (setStatus st s).tcpTimer = s.tcpTimer := rfl
@[simp] theorem setStatus_csumAcc (st : Status) : (setStatus st s).csumAcc = s.csumAcc := rfl
@[simp] theorem setStatus_held (st : Status) : (setStatus st s).held = s.held := rfl
@[simp] theorem setStatus_mem (st : Status) : (setStatus st s).mem = s.mem := rfl
@[simp] theorem setStatus_trace (st : Status) : (setStatus st s).trace = s.trace := rfl
@[simp] theorem setStatus_answer (st : Status) : (setStatus st s).answer = s.answer := rfl
@[simp] theorem setStatus_inputs (st : Status) : (setStatus st s).inputs = s.inputs := rfl
@[simp] theorem setStatus_env (st : Status) : (setStatus st s).env = s.env := rfl
@[simp] theorem setStatus_free (st : Status) : (setStatus st s).free = s.free := rfl

@[simp] theorem setRes0_cfgAddr (v : Word) : (setRes0 v s).cfgAddr = s.cfgAddr := rfl
@[simp] theorem setRes0_cfgMask (v : Word) : (setRes0 v s).cfgMask = s.cfgMask := rfl
@[simp] theorem setRes0_cfgGw (v : Word) : (setRes0 v s).cfgGw = s.cfgGw := rfl
@[simp] theorem setRes0_cmd (v : Word) : (setRes0 v s).cmd = s.cmd := rfl
@[simp] theorem setRes0_op0 (v : Word) : (setRes0 v s).op0 = s.op0 := rfl
@[simp] theorem setRes0_op1 (v : Word) : (setRes0 v s).op1 = s.op1 := rfl
@[simp] theorem setRes0_op2 (v : Word) : (setRes0 v s).op2 = s.op2 := rfl
@[simp] theorem setRes0_op3 (v : Word) : (setRes0 v s).op3 = s.op3 := rfl
@[simp] theorem setRes0_res0 (v : Word) : (setRes0 v s).res0 = v := rfl
@[simp] theorem setRes0_status (v : Word) : (setRes0 v s).status = s.status := rfl
@[simp] theorem setRes0_hdr (v : Word) : (setRes0 v s).hdr = s.hdr := rfl
@[simp] theorem setRes0_hdrValid (v : Word) : (setRes0 v s).hdrValid = s.hdrValid := rfl
@[simp] theorem setRes0_txSrc (v : Word) : (setRes0 v s).txSrc = s.txSrc := rfl
@[simp] theorem setRes0_txDst (v : Word) : (setRes0 v s).txDst = s.txDst := rfl
@[simp] theorem setRes0_txProto (v : Word) : (setRes0 v s).txProto = s.txProto := rfl
@[simp] theorem setRes0_txActive (v : Word) : (setRes0 v s).txActive = s.txActive := rfl
@[simp] theorem setRes0_txStartPos (v : Word) : (setRes0 v s).txStartPos = s.txStartPos := rfl
@[simp] theorem setRes0_txLinkTarget (v : Word) : (setRes0 v s).txLinkTarget = s.txLinkTarget := rfl
@[simp] theorem setRes0_arpTimer (v : Word) : (setRes0 v s).arpTimer = s.arpTimer := rfl
@[simp] theorem setRes0_tcpTimer (v : Word) : (setRes0 v s).tcpTimer = s.tcpTimer := rfl
@[simp] theorem setRes0_csumAcc (v : Word) : (setRes0 v s).csumAcc = s.csumAcc := rfl
@[simp] theorem setRes0_held (v : Word) : (setRes0 v s).held = { s.held with res0 := true } := rfl
@[simp] theorem setRes0_mem (v : Word) : (setRes0 v s).mem = s.mem := rfl
@[simp] theorem setRes0_trace (v : Word) : (setRes0 v s).trace = s.trace := rfl
@[simp] theorem setRes0_answer (v : Word) : (setRes0 v s).answer = s.answer := rfl
@[simp] theorem setRes0_inputs (v : Word) : (setRes0 v s).inputs = s.inputs := rfl
@[simp] theorem setRes0_env (v : Word) : (setRes0 v s).env = s.env := rfl
@[simp] theorem setRes0_free (v : Word) : (setRes0 v s).free = s.free := rfl

@[simp] theorem setAcc_cfgAddr (a : Nat) : (setAcc a s).cfgAddr = s.cfgAddr := rfl
@[simp] theorem setAcc_cfgMask (a : Nat) : (setAcc a s).cfgMask = s.cfgMask := rfl
@[simp] theorem setAcc_cfgGw (a : Nat) : (setAcc a s).cfgGw = s.cfgGw := rfl
@[simp] theorem setAcc_cmd (a : Nat) : (setAcc a s).cmd = s.cmd := rfl
@[simp] theorem setAcc_op0 (a : Nat) : (setAcc a s).op0 = s.op0 := rfl
@[simp] theorem setAcc_op1 (a : Nat) : (setAcc a s).op1 = s.op1 := rfl
@[simp] theorem setAcc_op2 (a : Nat) : (setAcc a s).op2 = s.op2 := rfl
@[simp] theorem setAcc_op3 (a : Nat) : (setAcc a s).op3 = s.op3 := rfl
@[simp] theorem setAcc_res0 (a : Nat) : (setAcc a s).res0 = s.res0 := rfl
@[simp] theorem setAcc_status (a : Nat) : (setAcc a s).status = s.status := rfl
@[simp] theorem setAcc_hdr (a : Nat) : (setAcc a s).hdr = s.hdr := rfl
@[simp] theorem setAcc_hdrValid (a : Nat) : (setAcc a s).hdrValid = s.hdrValid := rfl
@[simp] theorem setAcc_txSrc (a : Nat) : (setAcc a s).txSrc = s.txSrc := rfl
@[simp] theorem setAcc_txDst (a : Nat) : (setAcc a s).txDst = s.txDst := rfl
@[simp] theorem setAcc_txProto (a : Nat) : (setAcc a s).txProto = s.txProto := rfl
@[simp] theorem setAcc_txActive (a : Nat) : (setAcc a s).txActive = s.txActive := rfl
@[simp] theorem setAcc_txStartPos (a : Nat) : (setAcc a s).txStartPos = s.txStartPos := rfl
@[simp] theorem setAcc_txLinkTarget (a : Nat) : (setAcc a s).txLinkTarget = s.txLinkTarget := rfl
@[simp] theorem setAcc_arpTimer (a : Nat) : (setAcc a s).arpTimer = s.arpTimer := rfl
@[simp] theorem setAcc_tcpTimer (a : Nat) : (setAcc a s).tcpTimer = s.tcpTimer := rfl
@[simp] theorem setAcc_csumAcc (a : Nat) : (setAcc a s).csumAcc = BitVec.ofNat 32 a := rfl
@[simp] theorem setAcc_held (a : Nat) : (setAcc a s).held = { s.held with acc := true } := rfl
@[simp] theorem setAcc_mem (a : Nat) : (setAcc a s).mem = s.mem := rfl
@[simp] theorem setAcc_trace (a : Nat) : (setAcc a s).trace = s.trace := rfl
@[simp] theorem setAcc_answer (a : Nat) : (setAcc a s).answer = s.answer := rfl
@[simp] theorem setAcc_inputs (a : Nat) : (setAcc a s).inputs = s.inputs := rfl
@[simp] theorem setAcc_env (a : Nat) : (setAcc a s).env = s.env := rfl
@[simp] theorem setAcc_free (a : Nat) : (setAcc a s).free = s.free := rfl

@[simp] theorem setCmd_cfgAddr (c : Byte) : (setCmd c s).cfgAddr = s.cfgAddr := rfl
@[simp] theorem setCmd_cfgMask (c : Byte) : (setCmd c s).cfgMask = s.cfgMask := rfl
@[simp] theorem setCmd_cfgGw (c : Byte) : (setCmd c s).cfgGw = s.cfgGw := rfl
@[simp] theorem setCmd_cmd (c : Byte) : (setCmd c s).cmd = c := rfl
@[simp] theorem setCmd_op0 (c : Byte) : (setCmd c s).op0 = s.op0 := rfl
@[simp] theorem setCmd_op1 (c : Byte) : (setCmd c s).op1 = s.op1 := rfl
@[simp] theorem setCmd_op2 (c : Byte) : (setCmd c s).op2 = s.op2 := rfl
@[simp] theorem setCmd_op3 (c : Byte) : (setCmd c s).op3 = s.op3 := rfl
@[simp] theorem setCmd_res0 (c : Byte) : (setCmd c s).res0 = s.res0 := rfl
@[simp] theorem setCmd_status (c : Byte) : (setCmd c s).status = s.status := rfl
@[simp] theorem setCmd_hdr (c : Byte) : (setCmd c s).hdr = s.hdr := rfl
@[simp] theorem setCmd_hdrValid (c : Byte) : (setCmd c s).hdrValid = s.hdrValid := rfl
@[simp] theorem setCmd_txSrc (c : Byte) : (setCmd c s).txSrc = s.txSrc := rfl
@[simp] theorem setCmd_txDst (c : Byte) : (setCmd c s).txDst = s.txDst := rfl
@[simp] theorem setCmd_txProto (c : Byte) : (setCmd c s).txProto = s.txProto := rfl
@[simp] theorem setCmd_txActive (c : Byte) : (setCmd c s).txActive = s.txActive := rfl
@[simp] theorem setCmd_txStartPos (c : Byte) : (setCmd c s).txStartPos = s.txStartPos := rfl
@[simp] theorem setCmd_txLinkTarget (c : Byte) : (setCmd c s).txLinkTarget = s.txLinkTarget := rfl
@[simp] theorem setCmd_arpTimer (c : Byte) : (setCmd c s).arpTimer = s.arpTimer := rfl
@[simp] theorem setCmd_tcpTimer (c : Byte) : (setCmd c s).tcpTimer = s.tcpTimer := rfl
@[simp] theorem setCmd_csumAcc (c : Byte) : (setCmd c s).csumAcc = s.csumAcc := rfl
@[simp] theorem setCmd_held (c : Byte) : (setCmd c s).held = s.held := rfl
@[simp] theorem setCmd_mem (c : Byte) : (setCmd c s).mem = s.mem := rfl
@[simp] theorem setCmd_trace (c : Byte) : (setCmd c s).trace = s.trace := rfl
@[simp] theorem setCmd_answer (c : Byte) : (setCmd c s).answer = s.answer := rfl
@[simp] theorem setCmd_inputs (c : Byte) : (setCmd c s).inputs = s.inputs := rfl
@[simp] theorem setCmd_env (c : Byte) : (setCmd c s).env = s.env := rfl
@[simp] theorem setCmd_free (c : Byte) : (setCmd c s).free = s.free := rfl

@[simp] theorem setArpTimer_cfgAddr (t : Word) : (setArpTimer t s).cfgAddr = s.cfgAddr := rfl
@[simp] theorem setArpTimer_cfgMask (t : Word) : (setArpTimer t s).cfgMask = s.cfgMask := rfl
@[simp] theorem setArpTimer_cfgGw (t : Word) : (setArpTimer t s).cfgGw = s.cfgGw := rfl
@[simp] theorem setArpTimer_cmd (t : Word) : (setArpTimer t s).cmd = s.cmd := rfl
@[simp] theorem setArpTimer_op0 (t : Word) : (setArpTimer t s).op0 = s.op0 := rfl
@[simp] theorem setArpTimer_op1 (t : Word) : (setArpTimer t s).op1 = s.op1 := rfl
@[simp] theorem setArpTimer_op2 (t : Word) : (setArpTimer t s).op2 = s.op2 := rfl
@[simp] theorem setArpTimer_op3 (t : Word) : (setArpTimer t s).op3 = s.op3 := rfl
@[simp] theorem setArpTimer_res0 (t : Word) : (setArpTimer t s).res0 = s.res0 := rfl
@[simp] theorem setArpTimer_status (t : Word) : (setArpTimer t s).status = s.status := rfl
@[simp] theorem setArpTimer_hdr (t : Word) : (setArpTimer t s).hdr = s.hdr := rfl
@[simp] theorem setArpTimer_hdrValid (t : Word) : (setArpTimer t s).hdrValid = s.hdrValid := rfl
@[simp] theorem setArpTimer_txSrc (t : Word) : (setArpTimer t s).txSrc = s.txSrc := rfl
@[simp] theorem setArpTimer_txDst (t : Word) : (setArpTimer t s).txDst = s.txDst := rfl
@[simp] theorem setArpTimer_txProto (t : Word) : (setArpTimer t s).txProto = s.txProto := rfl
@[simp] theorem setArpTimer_txActive (t : Word) : (setArpTimer t s).txActive = s.txActive := rfl
@[simp] theorem setArpTimer_txStartPos (t : Word) : (setArpTimer t s).txStartPos = s.txStartPos := rfl
@[simp] theorem setArpTimer_txLinkTarget (t : Word) : (setArpTimer t s).txLinkTarget = s.txLinkTarget := rfl
@[simp] theorem setArpTimer_arpTimer (t : Word) : (setArpTimer t s).arpTimer = t := rfl
@[simp] theorem setArpTimer_tcpTimer (t : Word) : (setArpTimer t s).tcpTimer = s.tcpTimer := rfl
@[simp] theorem setArpTimer_csumAcc (t : Word) : (setArpTimer t s).csumAcc = s.csumAcc := rfl
@[simp] theorem setArpTimer_held (t : Word) : (setArpTimer t s).held = s.held := rfl
@[simp] theorem setArpTimer_mem (t : Word) : (setArpTimer t s).mem = s.mem := rfl
@[simp] theorem setArpTimer_trace (t : Word) : (setArpTimer t s).trace = s.trace := rfl
@[simp] theorem setArpTimer_answer (t : Word) : (setArpTimer t s).answer = s.answer := rfl
@[simp] theorem setArpTimer_inputs (t : Word) : (setArpTimer t s).inputs = s.inputs := rfl
@[simp] theorem setArpTimer_env (t : Word) : (setArpTimer t s).env = s.env := rfl
@[simp] theorem setArpTimer_free (t : Word) : (setArpTimer t s).free = s.free := rfl

@[simp] theorem setTcpTimer_cfgAddr (t : Word) : (setTcpTimer t s).cfgAddr = s.cfgAddr := rfl
@[simp] theorem setTcpTimer_cfgMask (t : Word) : (setTcpTimer t s).cfgMask = s.cfgMask := rfl
@[simp] theorem setTcpTimer_cfgGw (t : Word) : (setTcpTimer t s).cfgGw = s.cfgGw := rfl
@[simp] theorem setTcpTimer_cmd (t : Word) : (setTcpTimer t s).cmd = s.cmd := rfl
@[simp] theorem setTcpTimer_op0 (t : Word) : (setTcpTimer t s).op0 = s.op0 := rfl
@[simp] theorem setTcpTimer_op1 (t : Word) : (setTcpTimer t s).op1 = s.op1 := rfl
@[simp] theorem setTcpTimer_op2 (t : Word) : (setTcpTimer t s).op2 = s.op2 := rfl
@[simp] theorem setTcpTimer_op3 (t : Word) : (setTcpTimer t s).op3 = s.op3 := rfl
@[simp] theorem setTcpTimer_res0 (t : Word) : (setTcpTimer t s).res0 = s.res0 := rfl
@[simp] theorem setTcpTimer_status (t : Word) : (setTcpTimer t s).status = s.status := rfl
@[simp] theorem setTcpTimer_hdr (t : Word) : (setTcpTimer t s).hdr = s.hdr := rfl
@[simp] theorem setTcpTimer_hdrValid (t : Word) : (setTcpTimer t s).hdrValid = s.hdrValid := rfl
@[simp] theorem setTcpTimer_txSrc (t : Word) : (setTcpTimer t s).txSrc = s.txSrc := rfl
@[simp] theorem setTcpTimer_txDst (t : Word) : (setTcpTimer t s).txDst = s.txDst := rfl
@[simp] theorem setTcpTimer_txProto (t : Word) : (setTcpTimer t s).txProto = s.txProto := rfl
@[simp] theorem setTcpTimer_txActive (t : Word) : (setTcpTimer t s).txActive = s.txActive := rfl
@[simp] theorem setTcpTimer_txStartPos (t : Word) : (setTcpTimer t s).txStartPos = s.txStartPos := rfl
@[simp] theorem setTcpTimer_txLinkTarget (t : Word) : (setTcpTimer t s).txLinkTarget = s.txLinkTarget := rfl
@[simp] theorem setTcpTimer_arpTimer (t : Word) : (setTcpTimer t s).arpTimer = s.arpTimer := rfl
@[simp] theorem setTcpTimer_tcpTimer (t : Word) : (setTcpTimer t s).tcpTimer = t := rfl
@[simp] theorem setTcpTimer_csumAcc (t : Word) : (setTcpTimer t s).csumAcc = s.csumAcc := rfl
@[simp] theorem setTcpTimer_held (t : Word) : (setTcpTimer t s).held = s.held := rfl
@[simp] theorem setTcpTimer_mem (t : Word) : (setTcpTimer t s).mem = s.mem := rfl
@[simp] theorem setTcpTimer_trace (t : Word) : (setTcpTimer t s).trace = s.trace := rfl
@[simp] theorem setTcpTimer_answer (t : Word) : (setTcpTimer t s).answer = s.answer := rfl
@[simp] theorem setTcpTimer_inputs (t : Word) : (setTcpTimer t s).inputs = s.inputs := rfl
@[simp] theorem setTcpTimer_env (t : Word) : (setTcpTimer t s).env = s.env := rfl
@[simp] theorem setTcpTimer_free (t : Word) : (setTcpTimer t s).free = s.free := rfl

@[simp] theorem loadTimers_cfgAddr (t : Word) : (loadTimers t s).cfgAddr = s.cfgAddr := rfl
@[simp] theorem loadTimers_cfgMask (t : Word) : (loadTimers t s).cfgMask = s.cfgMask := rfl
@[simp] theorem loadTimers_cfgGw (t : Word) : (loadTimers t s).cfgGw = s.cfgGw := rfl
@[simp] theorem loadTimers_cmd (t : Word) : (loadTimers t s).cmd = s.cmd := rfl
@[simp] theorem loadTimers_op0 (t : Word) : (loadTimers t s).op0 = s.op0 := rfl
@[simp] theorem loadTimers_op1 (t : Word) : (loadTimers t s).op1 = s.op1 := rfl
@[simp] theorem loadTimers_op2 (t : Word) : (loadTimers t s).op2 = s.op2 := rfl
@[simp] theorem loadTimers_op3 (t : Word) : (loadTimers t s).op3 = s.op3 := rfl
@[simp] theorem loadTimers_res0 (t : Word) : (loadTimers t s).res0 = s.res0 := rfl
@[simp] theorem loadTimers_status (t : Word) : (loadTimers t s).status = s.status := rfl
@[simp] theorem loadTimers_hdr (t : Word) : (loadTimers t s).hdr = s.hdr := rfl
@[simp] theorem loadTimers_hdrValid (t : Word) : (loadTimers t s).hdrValid = s.hdrValid := rfl
@[simp] theorem loadTimers_txSrc (t : Word) : (loadTimers t s).txSrc = s.txSrc := rfl
@[simp] theorem loadTimers_txDst (t : Word) : (loadTimers t s).txDst = s.txDst := rfl
@[simp] theorem loadTimers_txProto (t : Word) : (loadTimers t s).txProto = s.txProto := rfl
@[simp] theorem loadTimers_txActive (t : Word) : (loadTimers t s).txActive = s.txActive := rfl
@[simp] theorem loadTimers_txStartPos (t : Word) : (loadTimers t s).txStartPos = s.txStartPos := rfl
@[simp] theorem loadTimers_txLinkTarget (t : Word) : (loadTimers t s).txLinkTarget = s.txLinkTarget := rfl
@[simp] theorem loadTimers_arpTimer (t : Word) : (loadTimers t s).arpTimer = t := rfl
@[simp] theorem loadTimers_tcpTimer (t : Word) : (loadTimers t s).tcpTimer = t := rfl
@[simp] theorem loadTimers_csumAcc (t : Word) : (loadTimers t s).csumAcc = s.csumAcc := rfl
@[simp] theorem loadTimers_held (t : Word) : (loadTimers t s).held = { s.held with timers := true } := rfl
@[simp] theorem loadTimers_mem (t : Word) : (loadTimers t s).mem = s.mem := rfl
@[simp] theorem loadTimers_trace (t : Word) : (loadTimers t s).trace = s.trace := rfl
@[simp] theorem loadTimers_answer (t : Word) : (loadTimers t s).answer = s.answer := rfl
@[simp] theorem loadTimers_inputs (t : Word) : (loadTimers t s).inputs = s.inputs := rfl
@[simp] theorem loadTimers_env (t : Word) : (loadTimers t s).env = s.env := rfl
@[simp] theorem loadTimers_free (t : Word) : (loadTimers t s).free = s.free := rfl

@[simp] theorem recordTx_cfgAddr (src dst : Word) (p : Byte) : (recordTx src dst p s).cfgAddr = s.cfgAddr := rfl
@[simp] theorem recordTx_cfgMask (src dst : Word) (p : Byte) : (recordTx src dst p s).cfgMask = s.cfgMask := rfl
@[simp] theorem recordTx_cfgGw (src dst : Word) (p : Byte) : (recordTx src dst p s).cfgGw = s.cfgGw := rfl
@[simp] theorem recordTx_cmd (src dst : Word) (p : Byte) : (recordTx src dst p s).cmd = s.cmd := rfl
@[simp] theorem recordTx_op0 (src dst : Word) (p : Byte) : (recordTx src dst p s).op0 = s.op0 := rfl
@[simp] theorem recordTx_op1 (src dst : Word) (p : Byte) : (recordTx src dst p s).op1 = s.op1 := rfl
@[simp] theorem recordTx_op2 (src dst : Word) (p : Byte) : (recordTx src dst p s).op2 = s.op2 := rfl
@[simp] theorem recordTx_op3 (src dst : Word) (p : Byte) : (recordTx src dst p s).op3 = s.op3 := rfl
@[simp] theorem recordTx_res0 (src dst : Word) (p : Byte) : (recordTx src dst p s).res0 = s.res0 := rfl
@[simp] theorem recordTx_status (src dst : Word) (p : Byte) : (recordTx src dst p s).status = s.status := rfl
@[simp] theorem recordTx_hdr (src dst : Word) (p : Byte) : (recordTx src dst p s).hdr = s.hdr := rfl
@[simp] theorem recordTx_hdrValid (src dst : Word) (p : Byte) : (recordTx src dst p s).hdrValid = s.hdrValid := rfl
@[simp] theorem recordTx_txSrc (src dst : Word) (p : Byte) : (recordTx src dst p s).txSrc = src := rfl
@[simp] theorem recordTx_txDst (src dst : Word) (p : Byte) : (recordTx src dst p s).txDst = dst := rfl
@[simp] theorem recordTx_txProto (src dst : Word) (p : Byte) : (recordTx src dst p s).txProto = p := rfl
@[simp] theorem recordTx_txActive (src dst : Word) (p : Byte) : (recordTx src dst p s).txActive = s.txActive := rfl
@[simp] theorem recordTx_txStartPos (src dst : Word) (p : Byte) : (recordTx src dst p s).txStartPos = BitVec.ofNat 16 Config.linkHdrLen := rfl
@[simp] theorem recordTx_txLinkTarget (src dst : Word) (p : Byte) : (recordTx src dst p s).txLinkTarget = s.txLinkTarget := rfl
@[simp] theorem recordTx_arpTimer (src dst : Word) (p : Byte) : (recordTx src dst p s).arpTimer = s.arpTimer := rfl
@[simp] theorem recordTx_tcpTimer (src dst : Word) (p : Byte) : (recordTx src dst p s).tcpTimer = s.tcpTimer := rfl
@[simp] theorem recordTx_csumAcc (src dst : Word) (p : Byte) : (recordTx src dst p s).csumAcc = s.csumAcc := rfl
@[simp] theorem recordTx_held (src dst : Word) (p : Byte) : (recordTx src dst p s).held = { s.held with tx := true } := rfl
@[simp] theorem recordTx_mem (src dst : Word) (p : Byte) : (recordTx src dst p s).mem = s.mem := rfl
@[simp] theorem recordTx_trace (src dst : Word) (p : Byte) : (recordTx src dst p s).trace = s.trace := rfl
@[simp] theorem recordTx_answer (src dst : Word) (p : Byte) : (recordTx src dst p s).answer = s.answer := rfl
@[simp] theorem recordTx_inputs (src dst : Word) (p : Byte) : (recordTx src dst p s).inputs = s.inputs := rfl
@[simp] theorem recordTx_env (src dst : Word) (p : Byte) : (recordTx src dst p s).env = s.env := rfl
@[simp] theorem recordTx_free (src dst : Word) (p : Byte) : (recordTx src dst p s).free = s.free := rfl

@[simp] theorem setMem_cfgAddr (m : Memory) : (setMem m s).cfgAddr = s.cfgAddr := rfl
@[simp] theorem setMem_cfgMask (m : Memory) : (setMem m s).cfgMask = s.cfgMask := rfl
@[simp] theorem setMem_cfgGw (m : Memory) : (setMem m s).cfgGw = s.cfgGw := rfl
@[simp] theorem setMem_cmd (m : Memory) : (setMem m s).cmd = s.cmd := rfl
@[simp] theorem setMem_op0 (m : Memory) : (setMem m s).op0 = s.op0 := rfl
@[simp] theorem setMem_op1 (m : Memory) : (setMem m s).op1 = s.op1 := rfl
@[simp] theorem setMem_op2 (m : Memory) : (setMem m s).op2 = s.op2 := rfl
@[simp] theorem setMem_op3 (m : Memory) : (setMem m s).op3 = s.op3 := rfl
@[simp] theorem setMem_res0 (m : Memory) : (setMem m s).res0 = s.res0 := rfl
@[simp] theorem setMem_status (m : Memory) : (setMem m s).status = s.status := rfl
@[simp] theorem setMem_hdr (m : Memory) : (setMem m s).hdr = s.hdr := rfl
@[simp] theorem setMem_hdrValid (m : Memory) : (setMem m s).hdrValid = s.hdrValid := rfl
@[simp] theorem setMem_txSrc (m : Memory) : (setMem m s).txSrc = s.txSrc := rfl
@[simp] theorem setMem_txDst (m : Memory) : (setMem m s).txDst = s.txDst := rfl
@[simp] theorem setMem_txProto (m : Memory) : (setMem m s).txProto = s.txProto := rfl
@[simp] theorem setMem_txActive (m : Memory) : (setMem m s).txActive = s.txActive := rfl
@[simp] theorem setMem_txStartPos (m : Memory) : (setMem m s).txStartPos = s.txStartPos := rfl
@[simp] theorem setMem_txLinkTarget (m : Memory) : (setMem m s).txLinkTarget = s.txLinkTarget := rfl
@[simp] theorem setMem_arpTimer (m : Memory) : (setMem m s).arpTimer = s.arpTimer := rfl
@[simp] theorem setMem_tcpTimer (m : Memory) : (setMem m s).tcpTimer = s.tcpTimer := rfl
@[simp] theorem setMem_csumAcc (m : Memory) : (setMem m s).csumAcc = s.csumAcc := rfl
@[simp] theorem setMem_held (m : Memory) : (setMem m s).held = s.held := rfl
@[simp] theorem setMem_mem (m : Memory) : (setMem m s).mem = m := rfl
@[simp] theorem setMem_trace (m : Memory) : (setMem m s).trace = s.trace := rfl
@[simp] theorem setMem_answer (m : Memory) : (setMem m s).answer = s.answer := rfl
@[simp] theorem setMem_inputs (m : Memory) : (setMem m s).inputs = s.inputs := rfl
@[simp] theorem setMem_env (m : Memory) : (setMem m s).env = s.env := rfl
@[simp] theorem setMem_free (m : Memory) : (setMem m s).free = s.free := rfl

@[simp] theorem setAnswer_cfgAddr (a : Answer) : (setAnswer a s).cfgAddr = s.cfgAddr := rfl
@[simp] theorem setAnswer_cfgMask (a : Answer) : (setAnswer a s).cfgMask = s.cfgMask := rfl
@[simp] theorem setAnswer_cfgGw (a : Answer) : (setAnswer a s).cfgGw = s.cfgGw := rfl
@[simp] theorem setAnswer_cmd (a : Answer) : (setAnswer a s).cmd = s.cmd := rfl
@[simp] theorem setAnswer_op0 (a : Answer) : (setAnswer a s).op0 = s.op0 := rfl
@[simp] theorem setAnswer_op1 (a : Answer) : (setAnswer a s).op1 = s.op1 := rfl
@[simp] theorem setAnswer_op2 (a : Answer) : (setAnswer a s).op2 = s.op2 := rfl
@[simp] theorem setAnswer_op3 (a : Answer) : (setAnswer a s).op3 = s.op3 := rfl
@[simp] theorem setAnswer_res0 (a : Answer) : (setAnswer a s).res0 = s.res0 := rfl
@[simp] theorem setAnswer_status (a : Answer) : (setAnswer a s).status = s.status := rfl
@[simp] theorem setAnswer_hdr (a : Answer) : (setAnswer a s).hdr = s.hdr := rfl
@[simp] theorem setAnswer_hdrValid (a : Answer) : (setAnswer a s).hdrValid = s.hdrValid := rfl
@[simp] theorem setAnswer_txSrc (a : Answer) : (setAnswer a s).txSrc = s.txSrc := rfl
@[simp] theorem setAnswer_txDst (a : Answer) : (setAnswer a s).txDst = s.txDst := rfl
@[simp] theorem setAnswer_txProto (a : Answer) : (setAnswer a s).txProto = s.txProto := rfl
@[simp] theorem setAnswer_txActive (a : Answer) : (setAnswer a s).txActive = s.txActive := rfl
@[simp] theorem setAnswer_txStartPos (a : Answer) : (setAnswer a s).txStartPos = s.txStartPos := rfl
@[simp] theorem setAnswer_txLinkTarget (a : Answer) : (setAnswer a s).txLinkTarget = s.txLinkTarget := rfl
@[simp] theorem setAnswer_arpTimer (a : Answer) : (setAnswer a s).arpTimer = s.arpTimer := rfl
@[simp] theorem setAnswer_tcpTimer (a : Answer) : (setAnswer a s).tcpTimer = s.tcpTimer := rfl
@[simp] theorem setAnswer_csumAcc (a : Answer) : (setAnswer a s).csumAcc = s.csumAcc := rfl
@[simp] theorem setAnswer_held (a : Answer) : (setAnswer a s).held = s.held := rfl
@[simp] theorem setAnswer_mem (a : Answer) : (setAnswer a s).mem = s.mem := rfl
@[simp] theorem setAnswer_trace (a : Answer) : (setAnswer a s).trace = s.trace := rfl
@[simp] theorem setAnswer_answer (a : Answer) : (setAnswer a s).answer = a := rfl
@[simp] theorem setAnswer_inputs (a : Answer) : (setAnswer a s).inputs = s.inputs := rfl
@[simp] theorem setAnswer_env (a : Answer) : (setAnswer a s).env = s.env := rfl
@[simp] theorem setAnswer_free (a : Answer) : (setAnswer a s).free = s.free := rfl

@[simp] theorem setInputs_cfgAddr (l : List Input) : (setInputs l s).cfgAddr = s.cfgAddr := rfl
@[simp] theorem setInputs_cfgMask (l : List Input) : (setInputs l s).cfgMask = s.cfgMask := rfl
@[simp] theorem setInputs_cfgGw (l : List Input) : (setInputs l s).cfgGw = s.cfgGw := rfl
@[simp] theorem setInputs_cmd (l : List Input) : (setInputs l s).cmd = s.cmd := rfl
@[simp] theorem setInputs_op0 (l : List Input) : (setInputs l s).op0 = s.op0 := rfl
@[simp] theorem setInputs_op1 (l : List Input) : (setInputs l s).op1 = s.op1 := rfl
@[simp] theorem setInputs_op2 (l : List Input) : (setInputs l s).op2 = s.op2 := rfl
@[simp] theorem setInputs_op3 (l : List Input) : (setInputs l s).op3 = s.op3 := rfl
@[simp] theorem setInputs_res0 (l : List Input) : (setInputs l s).res0 = s.res0 := rfl
@[simp] theorem setInputs_status (l : List Input) : (setInputs l s).status = s.status := rfl
@[simp] theorem setInputs_hdr (l : List Input) : (setInputs l s).hdr = s.hdr := rfl
@[simp] theorem setInputs_hdrValid (l : List Input) : (setInputs l s).hdrValid = s.hdrValid := rfl
@[simp] theorem setInputs_txSrc (l : List Input) : (setInputs l s).txSrc = s.txSrc := rfl
@[simp] theorem setInputs_txDst (l : List Input) : (setInputs l s).txDst = s.txDst := rfl
@[simp] theorem setInputs_txProto (l : List Input) : (setInputs l s).txProto = s.txProto := rfl
@[simp] theorem setInputs_txActive (l : List Input) : (setInputs l s).txActive = s.txActive := rfl
@[simp] theorem setInputs_txStartPos (l : List Input) : (setInputs l s).txStartPos = s.txStartPos := rfl
@[simp] theorem setInputs_txLinkTarget (l : List Input) : (setInputs l s).txLinkTarget = s.txLinkTarget := rfl
@[simp] theorem setInputs_arpTimer (l : List Input) : (setInputs l s).arpTimer = s.arpTimer := rfl
@[simp] theorem setInputs_tcpTimer (l : List Input) : (setInputs l s).tcpTimer = s.tcpTimer := rfl
@[simp] theorem setInputs_csumAcc (l : List Input) : (setInputs l s).csumAcc = s.csumAcc := rfl
@[simp] theorem setInputs_held (l : List Input) : (setInputs l s).held = s.held := rfl
@[simp] theorem setInputs_mem (l : List Input) : (setInputs l s).mem = s.mem := rfl
@[simp] theorem setInputs_trace (l : List Input) : (setInputs l s).trace = s.trace := rfl
@[simp] theorem setInputs_answer (l : List Input) : (setInputs l s).answer = s.answer := rfl
@[simp] theorem setInputs_inputs (l : List Input) : (setInputs l s).inputs = l := rfl
@[simp] theorem setInputs_env (l : List Input) : (setInputs l s).env = s.env := rfl
@[simp] theorem setInputs_free (l : List Input) : (setInputs l s).free = s.free := rfl

@[simp] theorem setEnv_cfgAddr (e : Env) : (setEnv e s).cfgAddr = s.cfgAddr := rfl
@[simp] theorem setEnv_cfgMask (e : Env) : (setEnv e s).cfgMask = s.cfgMask := rfl
@[simp] theorem setEnv_cfgGw (e : Env) : (setEnv e s).cfgGw = s.cfgGw := rfl
@[simp] theorem setEnv_cmd (e : Env) : (setEnv e s).cmd = s.cmd := rfl
@[simp] theorem setEnv_op0 (e : Env) : (setEnv e s).op0 = s.op0 := rfl
@[simp] theorem setEnv_op1 (e : Env) : (setEnv e s).op1 = s.op1 := rfl
@[simp] theorem setEnv_op2 (e : Env) : (setEnv e s).op2 = s.op2 := rfl
@[simp] theorem setEnv_op3 (e : Env) : (setEnv e s).op3 = s.op3 := rfl
@[simp] theorem setEnv_res0 (e : Env) : (setEnv e s).res0 = s.res0 := rfl
@[simp] theorem setEnv_status (e : Env) : (setEnv e s).status = s.status := rfl
@[simp] theorem setEnv_hdr (e : Env) : (setEnv e s).hdr = s.hdr := rfl
@[simp] theorem setEnv_hdrValid (e : Env) : (setEnv e s).hdrValid = s.hdrValid := rfl
@[simp] theorem setEnv_txSrc (e : Env) : (setEnv e s).txSrc = s.txSrc := rfl
@[simp] theorem setEnv_txDst (e : Env) : (setEnv e s).txDst = s.txDst := rfl
@[simp] theorem setEnv_txProto (e : Env) : (setEnv e s).txProto = s.txProto := rfl
@[simp] theorem setEnv_txActive (e : Env) : (setEnv e s).txActive = s.txActive := rfl
@[simp] theorem setEnv_txStartPos (e : Env) : (setEnv e s).txStartPos = s.txStartPos := rfl
@[simp] theorem setEnv_txLinkTarget (e : Env) : (setEnv e s).txLinkTarget = s.txLinkTarget := rfl
@[simp] theorem setEnv_arpTimer (e : Env) : (setEnv e s).arpTimer = s.arpTimer := rfl
@[simp] theorem setEnv_tcpTimer (e : Env) : (setEnv e s).tcpTimer = s.tcpTimer := rfl
@[simp] theorem setEnv_csumAcc (e : Env) : (setEnv e s).csumAcc = s.csumAcc := rfl
@[simp] theorem setEnv_held (e : Env) : (setEnv e s).held = s.held := rfl
@[simp] theorem setEnv_mem (e : Env) : (setEnv e s).mem = s.mem := rfl
@[simp] theorem setEnv_trace (e : Env) : (setEnv e s).trace = s.trace := rfl
@[simp] theorem setEnv_answer (e : Env) : (setEnv e s).answer = s.answer := rfl
@[simp] theorem setEnv_inputs (e : Env) : (setEnv e s).inputs = s.inputs := rfl
@[simp] theorem setEnv_env (e : Env) : (setEnv e s).env = e := rfl
@[simp] theorem setEnv_free (e : Env) : (setEnv e s).free = s.free := rfl

@[simp] theorem countFree_cfgAddr : (countFree s).cfgAddr = s.cfgAddr := rfl
@[simp] theorem countFree_cfgMask : (countFree s).cfgMask = s.cfgMask := rfl
@[simp] theorem countFree_cfgGw : (countFree s).cfgGw = s.cfgGw := rfl
@[simp] theorem countFree_cmd : (countFree s).cmd = s.cmd := rfl
@[simp] theorem countFree_op0 : (countFree s).op0 = s.op0 := rfl
@[simp] theorem countFree_op1 : (countFree s).op1 = s.op1 := rfl
@[simp] theorem countFree_op2 : (countFree s).op2 = s.op2 := rfl
@[simp] theorem countFree_op3 : (countFree s).op3 = s.op3 := rfl
@[simp] theorem countFree_res0 : (countFree s).res0 = s.res0 := rfl
@[simp] theorem countFree_status : (countFree s).status = s.status := rfl
@[simp] theorem countFree_hdr : (countFree s).hdr = s.hdr := rfl
@[simp] theorem countFree_hdrValid : (countFree s).hdrValid = s.hdrValid := rfl
@[simp] theorem countFree_txSrc : (countFree s).txSrc = s.txSrc := rfl
@[simp] theorem countFree_txDst : (countFree s).txDst = s.txDst := rfl
@[simp] theorem countFree_txProto : (countFree s).txProto = s.txProto := rfl
@[simp] theorem countFree_txActive : (countFree s).txActive = s.txActive := rfl
@[simp] theorem countFree_txStartPos : (countFree s).txStartPos = s.txStartPos := rfl
@[simp] theorem countFree_txLinkTarget : (countFree s).txLinkTarget = s.txLinkTarget := rfl
@[simp] theorem countFree_arpTimer : (countFree s).arpTimer = s.arpTimer := rfl
@[simp] theorem countFree_tcpTimer : (countFree s).tcpTimer = s.tcpTimer := rfl
@[simp] theorem countFree_csumAcc : (countFree s).csumAcc = s.csumAcc := rfl
@[simp] theorem countFree_held : (countFree s).held = s.held := rfl
@[simp] theorem countFree_mem : (countFree s).mem = s.mem := rfl
@[simp] theorem countFree_trace : (countFree s).trace = s.trace := rfl
@[simp] theorem countFree_answer : (countFree s).answer = s.answer := rfl
@[simp] theorem countFree_inputs : (countFree s).inputs = s.inputs := rfl
@[simp] theorem countFree_env : (countFree s).env = s.env := rfl
@[simp] theorem countFree_free : (countFree s).free = s.free + 1 := rfl

@[simp] theorem logEvent_cfgAddr (e : Event) : (logEvent e s).cfgAddr = s.cfgAddr := rfl
@[simp] theorem logEvent_cfgMask (e : Event) : (logEvent e s).cfgMask = s.cfgMask := rfl
@[simp] theorem logEvent_cfgGw (e : Event) : (logEvent e s).cfgGw = s.cfgGw := rfl
@[simp] theorem logEvent_cmd (e : Event) : (logEvent e s).cmd = s.cmd := rfl
@[simp] theorem logEvent_op0 (e : Event) : (logEvent e s).op0 = s.op0 := rfl
@[simp] theorem logEvent_op1 (e : Event) : (logEvent e s).op1 = s.op1 := rfl
@[simp] theorem logEvent_op2 (e : Event) : (logEvent e s).op2 = s.op2 := rfl
@[simp] theorem logEvent_op3 (e : Event) : (logEvent e s).op3 = s.op3 := rfl
@[simp] theorem logEvent_res0 (e : Event) : (logEvent e s).res0 = s.res0 := rfl
@[simp] theorem logEvent_status (e : Event) : (logEvent e s).status = s.status := rfl
@[simp] theorem logEvent_hdr (e : Event) : (logEvent e s).hdr = s.hdr := rfl
@[simp] theorem logEvent_hdrValid (e : Event) : (logEvent e s).hdrValid = s.hdrValid := rfl
@[simp] theorem logEvent_txSrc (e : Event) : (logEvent e s).txSrc = s.txSrc := rfl
@[simp] theorem logEvent_txDst (e : Event) : (logEvent e s).txDst = s.txDst := rfl
@[simp] theorem logEvent_txProto (e : Event) : (logEvent e s).txProto = s.txProto := rfl
@[simp] theorem logEvent_txActive (e : Event) : (logEvent e s).txActive = s.txActive := rfl
@[simp] theorem logEvent_txStartPos (e : Event) : (logEvent e s).txStartPos = s.txStartPos := rfl
@[simp] theorem logEvent_txLinkTarget (e : Event) : (logEvent e s).txLinkTarget = s.txLinkTarget := rfl
@[simp] theorem logEvent_arpTimer (e : Event) : (logEvent e s).arpTimer = s.arpTimer := rfl
@[simp] theorem logEvent_tcpTimer (e : Event) : (logEvent e s).tcpTimer = s.tcpTimer := rfl
@[simp] theorem logEvent_csumAcc (e : Event) : (logEvent e s).csumAcc = s.csumAcc := rfl
@[simp] theorem logEvent_held (e : Event) : (logEvent e s).held = s.held := rfl
@[simp] theorem logEvent_mem (e : Event) : (logEvent e s).mem = s.mem := rfl
@[simp] theorem logEvent_trace (e : Event) : (logEvent e s).trace = s.trace ++ [e] := rfl
@[simp] theorem logEvent_answer (e : Event) : (logEvent e s).answer = s.answer := rfl
@[simp] theorem logEvent_inputs (e : Event) : (logEvent e s).inputs = s.inputs := rfl
@[simp] theorem logEvent_env (e : Event) : (logEvent e s).env = s.env := rfl
@[simp] theorem logEvent_free (e : Event) : (logEvent e s).free = s.free := rfl

@[simp] theorem setTxActive_cfgAddr (b : Bool) : (setTxActive b s).cfgAddr = s.cfgAddr := rfl
@[simp] theorem setTxActive_cfgMask (b : Bool) : (setTxActive b s).cfgMask = s.cfgMask := rfl
@[simp] theorem setTxActive_cfgGw (b : Bool) : (setTxActive b s).cfgGw = s.cfgGw := rfl
@[simp] theorem setTxActive_cmd (b : Bool) : (setTxActive b s).cmd = s.cmd := rfl
@[simp] theorem setTxActive_op0 (b : Bool) : (setTxActive b s).op0 = s.op0 := rfl
@[simp] theorem setTxActive_op1 (b : Bool) : (setTxActive b s).op1 = s.op1 := rfl
@[simp] theorem setTxActive_op2 (b : Bool) : (setTxActive b s).op2 = s.op2 := rfl
@[simp] theorem setTxActive_op3 (b : Bool) : (setTxActive b s).op3 = s.op3 := rfl
@[simp] theorem setTxActive_res0 (b : Bool) : (setTxActive b s).res0 = s.res0 := rfl
@[simp] theorem setTxActive_status (b : Bool) : (setTxActive b s).status = s.status := rfl
@[simp] theorem setTxActive_hdr (b : Bool) : (setTxActive b s).hdr = s.hdr := rfl
@[simp] theorem setTxActive_hdrValid (b : Bool) : (setTxActive b s).hdrValid = s.hdrValid := rfl
@[simp] theorem setTxActive_txSrc (b : Bool) : (setTxActive b s).txSrc = s.txSrc := rfl
@[simp] theorem setTxActive_txDst (b : Bool) : (setTxActive b s).txDst = s.txDst := rfl
@[simp] theorem setTxActive_txProto (b : Bool) : (setTxActive b s).txProto = s.txProto := rfl
@[simp] theorem setTxActive_txActive (b : Bool) : (setTxActive b s).txActive = b := rfl
@[simp] theorem setTxActive_txStartPos (b : Bool) : (setTxActive b s).txStartPos = s.txStartPos := rfl
@[simp] theorem setTxActive_txLinkTarget (b : Bool) : (setTxActive b s).txLinkTarget = s.txLinkTarget := rfl
@[simp] theorem setTxActive_arpTimer (b : Bool) : (setTxActive b s).arpTimer = s.arpTimer := rfl
@[simp] theorem setTxActive_tcpTimer (b : Bool) : (setTxActive b s).tcpTimer = s.tcpTimer := rfl
@[simp] theorem setTxActive_csumAcc (b : Bool) : (setTxActive b s).csumAcc = s.csumAcc := rfl
@[simp] theorem setTxActive_held (b : Bool) : (setTxActive b s).held = s.held := rfl
@[simp] theorem setTxActive_mem (b : Bool) : (setTxActive b s).mem = s.mem := rfl
@[simp] theorem setTxActive_trace (b : Bool) : (setTxActive b s).trace = s.trace := rfl
@[simp] theorem setTxActive_answer (b : Bool) : (setTxActive b s).answer = s.answer := rfl
@[simp] theorem setTxActive_inputs (b : Bool) : (setTxActive b s).inputs = s.inputs := rfl
@[simp] theorem setTxActive_env (b : Bool) : (setTxActive b s).env = s.env := rfl
@[simp] theorem setTxActive_free (b : Bool) : (setTxActive b s).free = s.free := rfl

@[simp] theorem openHeader_cfgAddr (h : Header) : (openHeader h s).cfgAddr = s.cfgAddr := rfl
@[simp] theorem openHeader_cfgMask (h : Header) : (openHeader h s).cfgMask = s.cfgMask := rfl
@[simp] theorem openHeader_cfgGw (h : Header) : (openHeader h s).cfgGw = s.cfgGw := rfl
@[simp] theorem openHeader_cmd (h : Header) : (openHeader h s).cmd = s.cmd := rfl
@[simp] theorem openHeader_op0 (h : Header) : (openHeader h s).op0 = s.op0 := rfl
@[simp] theorem openHeader_op1 (h : Header) : (openHeader h s).op1 = s.op1 := rfl
@[simp] theorem openHeader_op2 (h : Header) : (openHeader h s).op2 = s.op2 := rfl
@[simp] theorem openHeader_op3 (h : Header) : (openHeader h s).op3 = s.op3 := rfl
@[simp] theorem openHeader_res0 (h : Header) : (openHeader h s).res0 = s.res0 := rfl
@[simp] theorem openHeader_status (h : Header) : (openHeader h s).status = s.status := rfl
@[simp] theorem openHeader_hdr (h : Header) : (openHeader h s).hdr = h := rfl
@[simp] theorem openHeader_hdrValid (h : Header) : (openHeader h s).hdrValid = true := rfl
@[simp] theorem openHeader_txSrc (h : Header) : (openHeader h s).txSrc = s.txSrc := rfl
@[simp] theorem openHeader_txDst (h : Header) : (openHeader h s).txDst = s.txDst := rfl
@[simp] theorem openHeader_txProto (h : Header) : (openHeader h s).txProto = s.txProto := rfl
@[simp] theorem openHeader_txActive (h : Header) : (openHeader h s).txActive = s.txActive := rfl
@[simp] theorem openHeader_txStartPos (h : Header) : (openHeader h s).txStartPos = s.txStartPos := rfl
@[simp] theorem openHeader_txLinkTarget (h : Header) : (openHeader h s).txLinkTarget = s.txLinkTarget := rfl
@[simp] theorem openHeader_arpTimer (h : Header) : (openHeader h s).arpTimer = s.arpTimer := rfl
@[simp] theorem openHeader_tcpTimer (h : Header) : (openHeader h s).tcpTimer = s.tcpTimer := rfl
@[simp] theorem openHeader_csumAcc (h : Header) : (openHeader h s).csumAcc = s.csumAcc := rfl
@[simp] theorem openHeader_held (h : Header) : (openHeader h s).held = s.held := rfl
@[simp] theorem openHeader_mem (h : Header) : (openHeader h s).mem = s.mem := rfl
@[simp] theorem openHeader_trace (h : Header) : (openHeader h s).trace = s.trace := rfl
@[simp] theorem openHeader_answer (h : Header) : (openHeader h s).answer = s.answer := rfl
@[simp] theorem openHeader_inputs (h : Header) : (openHeader h s).inputs = s.inputs := rfl
@[simp] theorem openHeader_env (h : Header) : (openHeader h s).env = s.env := rfl
@[simp] theorem openHeader_free (h : Header) : (openHeader h s).free = s.free := rfl

@[simp] theorem setLinkTarget_cfgAddr (t : LinkAddr) : (setLinkTarget t s).cfgAddr = s.cfgAddr := rfl
@[simp] theorem setLinkTarget_cfgMask (t : LinkAddr) : (setLinkTarget t s).cfgMask = s.cfgMask := rfl
@[simp] theorem setLinkTarget_cfgGw (t : LinkAddr) : (setLinkTarget t s).cfgGw = s.cfgGw := rfl
@[simp] theorem setLinkTarget_cmd (t : LinkAddr) : (setLinkTarget t s).cmd = s.cmd := rfl
@[simp] theorem setLinkTarget_op0 (t : LinkAddr) : (setLinkTarget t s).op0 = s.op0 := rfl
@[simp] theorem setLinkTarget_op1 (t : LinkAddr) : (setLinkTarget t s).op1 = s.op1 := rfl
@[simp] theorem setLinkTarget_op2 (t : LinkAddr) : (setLinkTarget t s).op2 = s.op2 := rfl
@[simp] theorem setLinkTarget_op3 (t : LinkAddr) : (setLinkTarget t s).op3 = s.op3 := rfl
@[simp] theorem setLinkTarget_res0 (t : LinkAddr) : (setLinkTarget t s).res0 = s.res0 := rfl
@[simp] theorem setLinkTarget_status (t : LinkAddr) : (setLinkTarget t s).status = s.status := rfl
@[simp] theorem setLinkTarget_hdr (t : LinkAddr) : (setLinkTarget t s).hdr = s.hdr := rfl
@[simp] theorem setLinkTarget_hdrValid (t : LinkAddr) : (setLinkTarget t s).hdrValid = s.hdrValid := rfl
@[simp] theorem setLinkTarget_txSrc (t : LinkAddr) : (setLinkTarget t s).txSrc = s.txSrc := rfl
@[simp] theorem setLinkTarget_txDst (t : LinkAddr) : (setLinkTarget t s).txDst = s.txDst := rfl
@[simp] theorem setLinkTarget_txProto (t : LinkAddr) : (setLinkTarget t s).txProto = s.txProto := rfl
@[simp] theorem setLinkTarget_txActive (t : LinkAddr) : (setLinkTarget t s).txActive = s.txActive := rfl
@[simp] theorem setLinkTarget_txStartPos (t : LinkAddr) : (setLinkTarget t s).txStartPos = s.txStartPos := rfl
@[simp] theorem setLinkTarget_txLinkTarget (t : LinkAddr) : (setLinkTarget t s).txLinkTarget = t := rfl
@[simp] theorem setLinkTarget_arpTimer (t : LinkAddr) : (setLinkTarget t s).arpTimer = s.arpTimer := rfl
@[simp] theorem setLinkTarget_tcpTimer (t : LinkAddr) : (setLinkTarget t s).tcpTimer = s.tcpTimer := rfl
@[simp] theorem setLinkTarget_csumAcc (t : LinkAddr) : (setLinkTarget t s).csumAcc = s.csumAcc := rfl
@[simp] theorem setLinkTarget_held (t : LinkAddr) : (setLinkTarget t s).held = s.held := rfl
@[simp] theorem setLinkTarget_mem (t : LinkAddr) : (setLinkTarget t s).mem = s.mem := rfl
@[simp] theorem setLinkTarget_trace (t : LinkAddr) : (setLinkTarget t s).trace = s.trace := rfl
@[simp] theorem setLinkTarget_answer (t : LinkAddr) : (setLinkTarget t s).answer = s.answer := rfl
@[simp] theorem setLinkTarget_inputs (t : LinkAddr) : (setLinkTarget t s).inputs = s.inputs := rfl
@[simp] theorem setLinkTarget_env (t : LinkAddr) : (setLinkTarget t s).env = s.env := rfl
@[simp] theorem setLinkTarget_free (t : LinkAddr) : (setLinkTarget t s).free = s.free := rfl

@[simp] theorem releaseLinkTarget_cfgAddr : (releaseLinkTarget s).cfgAddr = s.cfgAddr := rfl
@[simp] theorem releaseLinkTarget_cfgMask : (releaseLinkTarget s).cfgMask = s.cfgMask := rfl
@[simp] theorem releaseLinkTarget_cfgGw : (releaseLinkTarget s).cfgGw = s.cfgGw := rfl
@[simp] theorem releaseLinkTarget_cmd : (releaseLinkTarget s).cmd = s.cmd := rfl
@[simp] theorem releaseLinkTarget_op0 : (releaseLinkTarget s).op0 = s.op0 := rfl
@[simp] theorem releaseLinkTarget_op1 : (releaseLinkTarget s).op1 = s.op1 := rfl
@[simp] theorem releaseLinkTarget_op2 : (releaseLinkTarget s).op2 = s.op2 := rfl
@[simp] theorem releaseLinkTarget_op3 : (releaseLinkTarget s).op3 = s.op3 := rfl
@[simp] theorem releaseLinkTarget_res0 : (releaseLinkTarget s).res0 = s.res0 := rfl
@[simp] theorem releaseLinkTarget_status : (releaseLinkTarget s).status = s.status := rfl
@[simp] theorem releaseLinkTarget_hdr : (releaseLinkTarget s).hdr = s.hdr := rfl
@[simp] theorem releaseLinkTarget_hdrValid : (releaseLinkTarget s).hdrValid = s.hdrValid := rfl
@[simp] theorem releaseLinkTarget_txSrc : (releaseLinkTarget s).txSrc = s.txSrc := rfl
@[simp] theorem releaseLinkTarget_txDst : (releaseLinkTarget s).txDst = s.txDst := rfl
@[simp] theorem releaseLinkTarget_txProto : (releaseLinkTarget s).txProto = s.txProto := rfl
@[simp] theorem releaseLinkTarget_txActive : (releaseLinkTarget s).txActive = s.txActive := rfl
@[simp] theorem releaseLinkTarget_txStartPos : (releaseLinkTarget s).txStartPos = s.txStartPos := rfl
@[simp] theorem releaseLinkTarget_txLinkTarget : (releaseLinkTarget s).txLinkTarget = Config.freeLinkTarget s.free := rfl
@[simp] theorem releaseLinkTarget_arpTimer : (releaseLinkTarget s).arpTimer = s.arpTimer := rfl
@[simp] theorem releaseLinkTarget_tcpTimer : (releaseLinkTarget s).tcpTimer = s.tcpTimer := rfl
@[simp] theorem releaseLinkTarget_csumAcc : (releaseLinkTarget s).csumAcc = s.csumAcc := rfl
@[simp] theorem releaseLinkTarget_held : (releaseLinkTarget s).held = s.held := rfl
@[simp] theorem releaseLinkTarget_mem : (releaseLinkTarget s).mem = s.mem := rfl
@[simp] theorem releaseLinkTarget_trace : (releaseLinkTarget s).trace = s.trace := rfl
@[simp] theorem releaseLinkTarget_answer : (releaseLinkTarget s).answer = s.answer := rfl
@[simp] theorem releaseLinkTarget_inputs : (releaseLinkTarget s).inputs = s.inputs := rfl
@[simp] theorem releaseLinkTarget_env : (releaseLinkTarget s).env = s.env := rfl
@[simp] theorem releaseLinkTarget_free : (releaseLinkTarget s).free = s.free + 1 := rfl

@[simp] theorem closeHeader_cfgAddr : (closeHeader s).cfgAddr = s.cfgAddr := by
  unfold closeHeader; split <;> rfl
@[simp] theorem closeHeader_cfgMask : (closeHeader s).cfgMask = s.cfgMask := by
  unfold closeHeader; split <;> rfl
@[simp] theorem closeHeader_cfgGw : (closeHeader s).cfgGw = s.cfgGw := by
  unfold closeHeader; split <;> rfl
@[simp] theorem closeHeader_cmd : (closeHeader s).cmd = s.cmd := by
  unfold closeHeader; split <;> rfl
@[simp] theorem closeHeader_op0 : (closeHeader s).op0 = s.op0 := by
  unfold closeHeader; split <;> rfl
@[simp] theorem closeHeader_op1 : (closeHeader s).op1 = s.op1 := by
  unfold closeHeader; split <;> rfl
@[simp] theorem closeHeader_op2 : (closeHeader s).op2 = s.op2 := by
  unfold closeHeader; split <;> rfl
@[simp] theorem closeHeader_op3 : (closeHeader s).op3 = s.op3 := by
  unfold closeHeader; split <;> rfl
@[simp] theorem closeHeader_res0 : (closeHeader s).res0 = s.res0 := by
  unfold closeHeader; split <;> rfl
@[simp] theorem closeHeader_status : (closeHeader s).status = s.status := by
  unfold closeHeader; split <;> rfl
@[simp] theorem closeHeader_hdr : (closeHeader s).hdr = if s.hdrValid then Config.freeHeader s.free else s.hdr := by
  unfold closeHeader; split <;> rfl
@[simp] theorem closeHeader_hdrValid : (closeHeader s).hdrValid = false := by
  unfold closeHeader; split <;> simp_all
@[simp] theorem closeHeader_txSrc : (closeHeader s).txSrc = s.txSrc := by
  unfold closeHeader; split <;> rfl
@[simp] theorem closeHeader_txDst : (closeHeader s).txDst = s.txDst := by
  unfold closeHeader; split <;> rfl
@[simp] theorem closeHeader_txProto : (closeHeader s).txProto = s.txProto := by
  unfold closeHeader; split <;> rfl
@[simp] theorem closeHeader_txActive : (closeHeader s).txActive = s.txActive := by
  unfold closeHeader; split <;> rfl
@[simp] theorem closeHeader_txStartPos : (closeHeader s).txStartPos = s.txStartPos := by
  unfold closeHeader; split <;> rfl
@[simp] theorem closeHeader_txLinkTarget : (closeHeader s).txLinkTarget = s.txLinkTarget := by
  unfold closeHeader; split <;> rfl
@[simp] theorem closeHeader_arpTimer : (closeHeader s).arpTimer = s.arpTimer := by
  unfold closeHeader; split <;> rfl
@[simp] theorem closeHeader_tcpTimer : (closeHeader s).tcpTimer = s.tcpTimer := by
  unfold closeHeader; split <;> rfl
@[simp] theorem closeHeader_csumAcc : (closeHeader s).csumAcc = s.csumAcc := by
  unfold closeHeader; split <;> rfl
@[simp] theorem closeHeader_held : (closeHeader s).held = s.held := by
  unfold closeHeader; split <;> rfl
@[simp] theorem closeHeader_mem : (closeHeader s).mem = s.mem := by
  unfold closeHeader; split <;> rfl
@[simp] theorem closeHeader_trace : (closeHeader s).trace = s.trace := by
  unfold closeHeader; split <;> rfl
@[simp] theorem closeHeader_answer : (closeHeader s).answer = s.answer := by
  unfold closeHeader; split <;> rfl
@[simp] theorem closeHeader_inputs : (closeHeader s).inputs = s.inputs := by
  unfold closeHeader; split <;> rfl
@[simp] theorem closeHeader_env : (closeHeader s).env = s.env := by
  unfold closeHeader; split <;> rfl
@[simp] theorem closeHeader_free : (closeHeader s).free = if s.hdrValid then s.free + 1 else s.free := by
  unfold closeHeader; split <;> rfl

end Sys2Proof.Machine
end

