-- ==== Sys2Proof/Laws/Ops.lean ====
section
/-! SUPPORT. What the shared operations of Machine/Ops.lean and Machine/Operands.lean can do, said once each. -/

namespace Sys2Proof.Machine

@[simp] theorem andThen_next {α β : Type} (a : α) (k : α → Result β) : andThen (.next a) k = k a := rfl

@[simp] theorem andThen_refused {α β : Type} (r : Refusal) (k : α → Result β) :
    andThen (.refused r) k = .refused r := rfl

/-- A sequence gives a result exactly when both parts do. -/
theorem andThen_eq_next {α β : Type} {o : Result α} {k : α → Result β} {b : β} :
    andThen o k = .next b ↔ ∃ a, o = .next a ∧ k a = .next b := by
  cases o with
  | next a => simp
  | fault f => cases f
  | refused r => simp

/-- A sequence refuses exactly when its first part does, or the second does after the first. -/
theorem andThen_eq_refused {α β : Type} {o : Result α} {k : α → Result β} {r : Refusal} :
    andThen o k = .refused r ↔ o = .refused r ∨ ∃ a, o = .next a ∧ k a = .refused r := by
  cases o with
  | next a => simp
  | fault f => cases f
  | refused r => simp

/-- Sequencing is associative. -/
theorem andThen_assoc {α β γ : Type} (o : Result α) (k : α → Result β) (j : β → Result γ) :
    andThen (andThen o k) j = andThen o fun a => andThen (k a) j := by
  cases o <;> rfl

/-- No piece of an operation faults (60_exceptions R280): `Fault` has no constructor. -/
theorem result_ne_fault {α : Type} (o : Result α) (f : Fault) : o ≠ .fault f := nomatch f

theorem raiseStatus_eq_next {st : Status} {s t : State} : raiseStatus st s = .next t ↔ t = setStatus st s := by
  simp [raiseStatus, eq_comm]

theorem finishWith_eq_next {v : Word} {s t : State} :
    finishWith v s = .next t ↔ t = setStatus .success (setRes0 v s) := raiseStatus_eq_next

theorem readHeld_eq_next {α : Type} {held : Bool} {reg : Nat} {v w : α} :
    readHeld held reg v = .next w ↔ held = true ∧ v = w := by
  cases held <;> simp [readHeld]

/-- A register that holds a value is read. -/
theorem readHeld_of_held {α : Type} {held : Bool} (h : held = true) (reg : Nat) (v : α) :
    readHeld held reg v = .next v := by simp [readHeld, h]

/-- A register that holds no value is not read (10_state R35). -/
theorem readHeld_of_not_held {α : Type} {held : Bool} (h : held = false) (reg : Nat) (v : α) :
    readHeld held reg v = .refused (.registerHoldsNoValue reg) := by simp [readHeld, h]

/-- Every status is one of the twelve codes (60_exceptions R281). -/
theorem statusCode_le (st : Status) : (statusCode st).toNat ≤ 0x0B := by cases st <;> decide

/-- `drawClock` consumes one answer or draws one free value, and does nothing else. -/
theorem drawClock_state (s : State) :
    ∃ e n, (drawClock s).2 = { s with env := e, free := n } ∧ e.handoffs = s.env.handoffs := by
  unfold drawClock; split
  · exact ⟨_, s.free, rfl, rfl⟩
  · exact ⟨s.env, _, rfl, rfl⟩

/-- `drawWriteStart` consumes one answer or draws one free value, and does nothing else. -/
theorem drawWriteStart_state (s : State) :
    ∃ e n, (drawWriteStart s).2 = { s with env := e, free := n } ∧ e.handoffs = s.env.handoffs := by
  unfold drawWriteStart; split
  · exact ⟨_, s.free, rfl, rfl⟩
  · exact ⟨s.env, _, rfl, rfl⟩

/-- `drawSend` consumes one answer or draws one free value, and does nothing else. -/
theorem drawSend_state (s : State) :
    ∃ e n, (drawSend s).2 = { s with env := e, free := n } ∧ e.handoffs = s.env.handoffs := by
  unfold drawSend; split
  · exact ⟨_, s.free, rfl, rfl⟩
  · exact ⟨s.env, _, rfl, rfl⟩

/-- `drawLookup` consumes one answer or draws one free value, and does nothing else. -/
theorem drawLookup_state (s : State) :
    ∃ e n, (drawLookup s).2 = { s with env := e, free := n } ∧ e.handoffs = s.env.handoffs := by
  unfold drawLookup; split
  · exact ⟨_, s.free, rfl, rfl⟩
  · exact ⟨s.env, _, rfl, rfl⟩

/-- `drawRequest` consumes one answer or draws one free value, and does nothing else. -/
theorem drawRequest_state (s : State) :
    ∃ e n, (drawRequest s).2 = { s with env := e, free := n } ∧ e.handoffs = s.env.handoffs := by
  unfold drawRequest; split
  · exact ⟨_, s.free, rfl, rfl⟩
  · exact ⟨s.env, _, rfl, rfl⟩

/-- `drawArrivals` consumes one batch of arrivals, or none where none is listed, and does nothing else. -/
theorem drawArrivals_state (s : State) :
    ∃ e, (drawArrivals s).2 = { s with env := e } ∧ e.handoffs = s.env.handoffs := by
  unfold drawArrivals; split
  · exact ⟨_, rfl, rfl⟩
  · exact ⟨s.env, rfl, rfl⟩

/-- A listed answer is the one that is given. -/
theorem drawClock_listed {s : State} {v : Word} {rest : List Word} (h : s.env.clock = v :: rest) :
    drawClock s = (v, setEnv { s.env with clock := rest } s) := by simp [drawClock, h]

/-- A listed answer is the one that is given. -/
theorem drawWriteStart_listed {s : State} {v : Bool} {rest : List Bool} (h : s.env.writeStart = v :: rest) :
    drawWriteStart s = (v, setEnv { s.env with writeStart := rest } s) := by simp [drawWriteStart, h]

/-- A listed answer is the one that is given. -/
theorem drawSend_listed {s : State} {v : Bool} {rest : List Bool} (h : s.env.send = v :: rest) :
    drawSend s = (v, setEnv { s.env with send := rest } s) := by simp [drawSend, h]

/-- A listed answer is the one that is given. -/
theorem drawLookup_listed {s : State} {v : Option LinkAddr} {rest : List (Option LinkAddr)}
    (h : s.env.lookup = v :: rest) :
    drawLookup s = (v, setEnv { s.env with lookup := rest } s) := by simp [drawLookup, h]

/-- A listed answer is the one that is given. -/
theorem drawRequest_listed {s : State} {v : Byte} {rest : List Byte} (h : s.env.request = v :: rest) :
    drawRequest s = (v, setEnv { s.env with request := rest } s) := by simp [drawRequest, h]

/-- The listed frames are the ones that arrive. -/
theorem drawArrivals_listed {s : State} {fs : List (List Byte)} {rest : List (List (List Byte))}
    (h : s.env.arrivals = fs :: rest) :
    drawArrivals s = (fs, setEnv { s.env with arrivals := rest } s) := by simp [drawArrivals, h]

/-- Where nothing is listed nothing arrives. -/
theorem drawArrivals_none {s : State} (h : s.env.arrivals = []) : drawArrivals s = ([], s) := by
  simp [drawArrivals, h]

end Sys2Proof.Machine
end

