-- ==== Sys2Proof/Laws/Link.lean ====
section
/-! SUPPORT. What each link-layer, clock and neighbor call can do, said once: the states are written out, so that a caller
never unfolds the call. -/

namespace Sys2Proof.Machine

theorem rxRange_eq_next {n : Nat} {m : Memory} {bs : List Byte} :
    rxRange n m = .next bs ↔ ∃ f, m.rxf = some f ∧ m.rp + n ≤ f.length ∧ bs = (f.drop m.rp).take n := by
  unfold rxRange
  split
  · simp_all
  · split <;> simp_all [eq_comm]

/-- A range in reach of the read pointer is read. -/
theorem rxRange_of_le {n : Nat} {m : Memory} {f : List Byte} (hf : m.rxf = some f) (h : m.rp + n ≤ f.length) :
    rxRange n m = .next ((f.drop m.rp).take n) := by simp [rxRange, hf, h]

theorem txRange_eq_next {o n : Nat} {m : Memory} {bs : List Byte} :
    txRange o n m = .next bs ↔ o + n ≤ m.wp ∧ bs = (m.txbuf.drop o).take n := by
  unfold txRange; split <;> simp_all [eq_comm]

/-- A range below the write pointer is read. -/
theorem txRange_of_le {o n : Nat} {m : Memory} (h : o + n ≤ m.wp) : txRange o n m = .next ((m.txbuf.drop o).take n) := by
  simp [txRange, h]

/-- With no current frame nothing is read (20_memory R74). -/
theorem rxRange_of_none {n : Nat} {m : Memory} (h : m.rxf = none) : rxRange n m = .refused .rxNoFrame := by
  simp [rxRange, h]

/-- A range past the end of the frame is not read (20_memory R74). -/
theorem rxRange_of_lt {n : Nat} {m : Memory} {f : List Byte} (hf : m.rxf = some f) (h : f.length < m.rp + n) :
    rxRange n m = .refused .rxOutOfRange := by simp [rxRange, hf, h]

/-- A range past the write pointer is not read (20_memory R74). -/
theorem txRange_of_lt {o n : Nat} {m : Memory} (h : m.wp < o + n) : txRange o n m = .refused .txOutOfRange := by
  simp [txRange, h]

theorem callReadBlock_eq_next {n : Nat} {s : State} {r : List Byte × State} :
    callReadBlock n s = .next r ↔ ∃ f, s.mem.rxf = some f ∧ s.mem.rp + n ≤ f.length ∧
      r = ((f.drop s.mem.rp).take n,
        { s with mem := advance n s.mem, trace := s.trace ++ [.linkReadBlock n ((f.drop s.mem.rp).take n)] }) := by
  simp only [callReadBlock, andThen_eq_next, rxRange_eq_next]
  constructor
  · rintro ⟨_, ⟨f, hf, hl, rfl⟩, h⟩; cases h; exact ⟨f, hf, hl, rfl⟩
  · rintro ⟨f, hf, hl, rfl⟩; exact ⟨_, ⟨f, hf, hl, rfl⟩, rfl⟩

theorem callDump_eq_next {n : Nat} {s t : State} :
    callDump n s = .next t ↔ ∃ f, s.mem.rxf = some f ∧ s.mem.rp + n ≤ f.length ∧
      t = { s with mem := advance n s.mem, trace := s.trace ++ [.linkDump n] } := by
  simp only [callDump, andThen_eq_next, rxRange_eq_next]
  constructor
  · rintro ⟨_, ⟨f, hf, hl, rfl⟩, h⟩; cases h; exact ⟨f, hf, hl, rfl⟩
  · rintro ⟨f, hf, hl, rfl⟩; exact ⟨_, ⟨f, hf, hl, rfl⟩, rfl⟩

theorem callRxChecksum_eq_next {n : Nat} {seed : Half} {s : State} {r : Half × State} :
    callRxChecksum n seed s = .next r ↔ ∃ f, s.mem.rxf = some f ∧ s.mem.rp + n ≤ f.length ∧
      r = (csum ((f.drop s.mem.rp).take n) seed,
        { s with
          csumAcc := BitVec.ofNat 32 (foldedSum ((f.drop s.mem.rp).take n) seed), held := { s.held with acc := true },
          trace := s.trace ++ [.linkComputeRxChecksum n seed (csum ((f.drop s.mem.rp).take n) seed)] }) := by
  simp only [callRxChecksum, andThen_eq_next, rxRange_eq_next]
  constructor
  · rintro ⟨_, ⟨f, hf, hl, rfl⟩, h⟩; cases h; exact ⟨f, hf, hl, rfl⟩
  · rintro ⟨f, hf, hl, rfl⟩; exact ⟨_, ⟨f, hf, hl, rfl⟩, rfl⟩

theorem callTxChecksum_eq_next {o n : Nat} {seed : Half} {s : State} {r : Half × State} :
    callTxChecksum o n seed s = .next r ↔ o + n ≤ s.mem.wp ∧
      r = (csum ((s.mem.txbuf.drop o).take n) seed,
        { s with
          csumAcc := BitVec.ofNat 32 (foldedSum ((s.mem.txbuf.drop o).take n) seed),
          held := { s.held with acc := true },
          trace := s.trace ++ [.linkComputeTxChecksum o n seed (csum ((s.mem.txbuf.drop o).take n) seed)] }) := by
  simp only [callTxChecksum, andThen_eq_next, txRange_eq_next]
  constructor
  · rintro ⟨_, ⟨hl, rfl⟩, h⟩; cases h; exact ⟨hl, rfl⟩
  · rintro ⟨hl, rfl⟩; exact ⟨_, ⟨hl, rfl⟩, rfl⟩

theorem callInsert_eq_next {bs : List Byte} {o : Nat} {s t : State} :
    callInsert bs o s = .next t ↔ o + bs.length ≤ s.mem.wp ∧
      t = { s with mem := overwrite bs o s.mem, trace := s.trace ++ [.linkInsert bs bs.length o] } := by
  simp only [callInsert, insertBytes, andThen_eq_next]
  by_cases h : o + bs.length ≤ s.mem.wp
  · simp only [h, if_true, true_and]
    constructor
    · rintro ⟨_, h1, h2⟩; cases h1; cases h2; rfl
    · rintro rfl; exact ⟨_, rfl, rfl⟩
  · simp [h]

/-- `callFlush` releases the current frame. -/
theorem callFlush_eq (s : State) :
    callFlush s = { s with mem := releaseFrame s.mem, trace := s.trace ++ [.linkFlush] } := rfl

/-- `callClock` answers one value and leaves everything but the answers, the trace and the count of free values. -/
theorem callClock_state (s : State) :
    ∃ e n, (callClock s).2 = { s with env := e, free := n, trace := s.trace ++ [.clockNow (callClock s).1] } ∧
      e.handoffs = s.env.handoffs := by
  obtain ⟨e, n, h, he⟩ := drawClock_state s
  exact ⟨e, n, by simp [callClock, h, logEvent], he⟩

/-- A listed clock value is the one that is answered. -/
theorem callClock_listed {s : State} {v : Word} {rest : List Word} (h : s.env.clock = v :: rest) :
    callClock s = (v, { s with env := { s.env with clock := rest }, trace := s.trace ++ [.clockNow v] }) := by
  simp [callClock, drawClock_listed h, logEvent, setEnv]

/-- `callLookup` answers one value and leaves everything but the answers, the trace and the count of free values. -/
theorem callLookup_state (a : Word) (s : State) :
    ∃ e n, (callLookup a s).2 =
        { s with env := e, free := n, trace := s.trace ++ [.arpLookup a (callLookup a s).1] } ∧
      e.handoffs = s.env.handoffs := by
  obtain ⟨e, n, h, he⟩ := drawLookup_state s
  exact ⟨e, n, by simp [callLookup, h, logEvent], he⟩

/-- A listed lookup answer is the one that is given. -/
theorem callLookup_listed {a : Word} {s : State} {v : Option LinkAddr} {rest : List (Option LinkAddr)}
    (h : s.env.lookup = v :: rest) :
    callLookup a s =
      (v, { s with env := { s.env with lookup := rest }, trace := s.trace ++ [.arpLookup a v] }) := by
  simp [callLookup, drawLookup_listed h, logEvent, setEnv]

/-- `callRequest` answers one value and leaves everything but the answers, the trace and the count of free values. -/
theorem callRequest_state (a : Word) (s : State) :
    ∃ e n, (callRequest a s).2 =
        { s with env := e, free := n, trace := s.trace ++ [.arpRequest a (callRequest a s).1] } ∧
      e.handoffs = s.env.handoffs := by
  obtain ⟨e, n, h, he⟩ := drawRequest_state s
  exact ⟨e, n, by simp [callRequest, h, logEvent], he⟩

/-- A listed status is the one that is given. -/
theorem callRequest_listed {a : Word} {s : State} {v : Byte} {rest : List Byte} (h : s.env.request = v :: rest) :
    callRequest a s =
      (v, { s with env := { s.env with request := rest }, trace := s.trace ++ [.arpRequest a v] }) := by
  simp [callRequest, drawRequest_listed h, logEvent, setEnv]

/-- A link address is its six bytes, most significant first (30_encoding R104). -/
theorem linkAddrBytes_eq (v : LinkAddr) :
    linkAddrBytes v = [v.extractLsb' 40 8, v.extractLsb' 32 8, v.extractLsb' 24 8, v.extractLsb' 16 8,
      v.extractLsb' 8 8, v.extractLsb' 0 8] := rfl

/-- The link header at the parameters' defaults: the link target, six bytes of the link layer's own, the type field. -/
theorem linkHeader_eq (target : LinkAddr) (other : Nat → Byte) (t : Half) :
    linkHeader target other t =
      linkAddrBytes target ++ [other 6, other 7, other 8, other 9, other 10, other 11] ++ be16 t := rfl

/-- `callWriteStart` begins a frame or loses TX space; RX space stays as it is. -/
theorem callWriteStart_state (target : LinkAddr) (t : Half) (s : State) :
    ∃ e n buf, (callWriteStart target t s).2 =
        { s with
          env := e, free := n, mem := { s.mem with txbuf := buf },
          trace := s.trace ++ [.linkWriteStart target t (callWriteStart target t s).1] } ∧
      e.handoffs = s.env.handoffs ∧
      ((callWriteStart target t s).1 = true → ∃ other, buf = linkHeader target other t) := by
  obtain ⟨e, n, h, he⟩ := drawWriteStart_state s
  simp only [callWriteStart, writeStart]
  split
  · exact ⟨e, n + 1, linkHeader target (Config.freeLinkByte n) t, by simp [h, logEvent, countFree, setMem, beginFrame], he,
      fun _ => ⟨_, rfl⟩⟩
  · exact ⟨e, n + 1, Config.freeTxSpace n, by simp [h, logEvent, countFree, setMem, loseTxSpace], he, by simp⟩

/-- A listed answer of `writeStart` is the one that is given. -/
theorem callWriteStart_listed {target : LinkAddr} {t : Half} {s : State} {ok : Bool} {rest : List Bool}
    (h : s.env.writeStart = ok :: rest) :
    ∃ n buf, callWriteStart target t s = (ok,
        { s with
          env := { s.env with writeStart := rest }, free := n, mem := { s.mem with txbuf := buf },
          trace := s.trace ++ [.linkWriteStart target t ok] }) ∧
      (ok = true → ∃ other, buf = linkHeader target other t) := by
  simp only [callWriteStart, writeStart, drawWriteStart_listed h]
  cases ok
  · exact ⟨s.free + 1, Config.freeTxSpace s.free, rfl, by simp⟩
  · exact ⟨s.free + 1, linkHeader target (Config.freeLinkByte s.free) t, rfl, fun _ => ⟨_, rfl⟩⟩

/-- `callSend` hands TXBUF to the medium and loses TX space; RX space stays as it is. -/
theorem callSend_state (s : State) :
    ∃ e n buf, (callSend s).2 =
        { s with
          env := e, free := n,
          mem := { s.mem with txbuf := buf, sent := s.mem.sent ++ [(s.mem.txbuf, (callSend s).1)] },
          trace := s.trace ++ [.linkSend (callSend s).1] } ∧
      e.handoffs = s.env.handoffs := by
  obtain ⟨e, n, h, he⟩ := drawSend_state s
  exact ⟨e, n + 1, Config.freeTxSpace n, by simp [callSend, sendFrame, h, logEvent, countFree, setMem, loseTxSpace], he⟩

/-- A listed answer of `send` is the one that is given. -/
theorem callSend_listed {s : State} {ok : Bool} {rest : List Bool} (h : s.env.send = ok :: rest) :
    ∃ n buf, callSend s = (ok,
      { s with
        env := { s.env with send := rest }, free := n,
        mem := { s.mem with txbuf := buf, sent := s.mem.sent ++ [(s.mem.txbuf, ok)] },
        trace := s.trace ++ [.linkSend ok] }) := by
  exact ⟨s.free + 1, Config.freeTxSpace s.free, by
    simp [callSend, sendFrame, drawSend_listed h, loseTxSpace, logEvent, countFree, setMem, setEnv]⟩

/-- `callEventHandler` appends the frames that arrive to RXQ. -/
theorem callEventHandler_state (s : State) :
    ∃ e fs, callEventHandler s =
        { s with env := e, mem := { s.mem with rxq := s.mem.rxq ++ fs }, trace := s.trace ++ [.linkEventHandler] } ∧
      e.handoffs = s.env.handoffs := by
  obtain ⟨e, h, he⟩ := drawArrivals_state (logEvent .linkEventHandler s)
  exact ⟨e, _, by simp only [callEventHandler, h]; rfl, he⟩

/-- The listed frames are the ones that arrive. -/
theorem callEventHandler_listed {s : State} {fs : List (List Byte)} {rest : List (List (List Byte))}
    (h : s.env.arrivals = fs :: rest) :
    callEventHandler s =
      { s with
        env := { s.env with arrivals := rest }, mem := { s.mem with rxq := s.mem.rxq ++ fs },
        trace := s.trace ++ [.linkEventHandler] } := by
  unfold callEventHandler
  rw [drawArrivals_listed (s := logEvent .linkEventHandler s) h]
  rfl

/-- Where nothing is listed nothing arrives. -/
theorem callEventHandler_none {s : State} (h : s.env.arrivals = []) :
    callEventHandler s = { s with trace := s.trace ++ [.linkEventHandler] } := by
  unfold callEventHandler
  rw [drawArrivals_none (s := logEvent .linkEventHandler s) h]
  simp [setMem, logEvent]

end Sys2Proof.Machine
end

