-- ==== Sys2Proof/Laws/Handoff.lean ====
section
/-! SUPPORT. The induction over hand-offs, packaged once: what every action of a collaborator keeps, a hand-off keeps. -/

namespace Sys2Proof.Machine

/-- What each action of a script keeps, the script keeps. -/
theorem runScript_keeps {P : State → Prop} {h : State → Result State}
    (hin : ∀ a s t, P s → nestedInput h a s = .next t → P t) :
    ∀ (script : List Input) (s t : State), P s → runScript h script s = .next t → P t
  | [], s, t, hp, hr => by cases hr; exact hp
  | a :: rest, s, t, hp, hr => by
    simp only [runScript, andThen_eq_next] at hr
    obtain ⟨u, hu, ht⟩ := hr
    exact runScript_keeps hin rest u t (hin a s u hp hu) ht

/-- What each action keeps, under every behaviour of deeper hand-offs that keeps it, a hand-off keeps. -/
theorem runHandoff_keeps {P : State → Prop} (henv : ∀ e s, P s → P (setEnv e s))
    (hin : ∀ h a s t, (∀ u v, P u → h u = .next v → P v) → P s → nestedInput h a s = .next t → P t) :
    ∀ (depth : Nat) (s t : State), P s → runHandoff depth s = .next t → P t
  | 0, s, t, hp, hr => by cases hr; exact hp
  | depth + 1, s, t, hp, hr => by
    simp only [runHandoff] at hr
    split at hr
    · cases hr; exact hp
    · exact runScript_keeps (fun a u v => hin _ a u v (runHandoff_keeps henv hin depth)) _ _ _ (henv _ _ hp) hr

/-- The same of `collaborate`. -/
theorem collaborate_keeps {P : State → Prop} (henv : ∀ e s, P s → P (setEnv e s))
    (hin : ∀ h a s t, (∀ u v, P u → h u = .next v → P v) → P s → nestedInput h a s = .next t → P t)
    {s t : State} (hp : P s) (hr : collaborate s = .next t) : P t :=
  runHandoff_keeps henv hin _ _ _ hp hr

/-- Where no script is pending the collaborator does nothing (log 6). -/
theorem collaborate_of_none {s : State} (h : s.env.handoffs = []) : collaborate s = .next s := by
  simp [collaborate, h, runHandoff]

/-- Where no script is pending a hand-off is its event only. -/
theorem handOff_of_none {e : Event} {s : State} (h : s.env.handoffs = []) :
    handOff e s = .next { s with trace := s.trace ++ [e] } := collaborate_of_none h

end Sys2Proof.Machine
end

