-- ==== Sys2Proof/Laws/Receive.lean ====
section
/-! SUPPORT. The pieces of RX_PARSE, each said once: the steps in their order, and what each arm can do. -/

namespace Sys2Proof.Machine

theorem payloadLength_eq_next {h : Header} {n : Nat} :
    payloadLength h = .next n ↔ headerLength h ≤ h.len.toNat ∧ n = h.len.toNat - headerLength h := by
  unfold payloadLength
  split
  · constructor
    · intro e; cases e
    · rintro ⟨h1, _⟩; omega
  · constructor
    · intro e; cases e; exact ⟨by omega, rfl⟩
    · rintro ⟨_, rfl⟩; rfl

/-- A payload length fits 16 bits. -/
theorem payloadLength_le {h : Header} {n : Nat} (e : payloadLength h = .next n) : n ≤ 65535 := by
  rw [payloadLength_eq_next] at e
  have := h.len.isLt
  omega

/-- Steps 3 to 9, with the constants written out. -/
theorem validateHeader_eq (host : Word) (s : State) :
    validateHeader host s =
      if s.hdr.version ≠ 4#4 then .next (s, .wrongVersion)
      else if s.hdr.src = 0xFFFFFFFF#32 then .next (s, .sourceSpoofed)
      else if classify s.hdr.dst host = .notForUs then .next (s, .destinationMismatch)
      else if s.hdr.ihl.toNat < 5 then .next (s, .malformedHeader)
      else if 5 < s.hdr.ihl.toNat then
        andThen (callDump (headerLength s.hdr - 20) s) fun t => .next (t, .optionsUnsupported)
      else dispatchProtocol s := rfl

/-- What steps 1 to 9 can do when they give a result. -/
theorem parseHeader_eq_next {s : State} {r : Ended} :
    parseHeader s = .next r ↔ ∃ c, callRxChecksum 20 0#16 s = .next c ∧
      ((c.1 ≠ 0#16 ∧ r = (c.2, .checksumInvalid)) ∨
       (c.1 = 0#16 ∧ ∃ b, callReadBlock 20 c.2 = .next b ∧
          validateHeader s.cfgAddr (openHeader (loadHeader b.1) b.2) = .next r)) := by
  simp only [parseHeader, andThen_eq_next, Config.ipv4HdrLen]
  constructor
  · rintro ⟨c, hc, h⟩
    refine ⟨c, hc, ?_⟩
    by_cases hz : c.1 = 0#16
    · simp only [hz, ne_eq, not_true_eq_false, if_false, andThen_eq_next] at h
      exact .inr ⟨hz, h⟩
    · simp only [hz, ne_eq, not_false_eq_true, if_true] at h
      cases h
      exact .inl ⟨hz, rfl⟩
  · rintro ⟨c, hc, ⟨hz, rfl⟩ | ⟨hz, h⟩⟩
    · exact ⟨c, hc, by simp [hz]⟩
    · exact ⟨c, hc, by simpa only [hz, ne_eq, not_true_eq_false, if_false, andThen_eq_next] using h⟩

/-- The RX_PARSE body is its steps, and then HDR_VALID is cleared. -/
theorem rxParseBody_eq_next {s : State} {r : Ended} :
    rxParseBody s = .next r ↔ ∃ q, parseHeader s = .next q ∧ r = (closeHeader q.1, q.2) := by
  simp only [rxParseBody, andThen_eq_next]
  constructor
  · rintro ⟨q, hq, h⟩; cases h; exact ⟨q, hq, rfl⟩
  · rintro ⟨q, hq, rfl⟩; exact ⟨q, hq, rfl⟩

/-- What the ICMP arm can do. -/
theorem icmpArm_eq_next {n : Nat} {s : State} {r : Ended} (h : icmpArm n s = .next r) :
    (s.hdr.dst = 0#32 ∧ r = (s, .success)) ∨
    (s.hdr.dst ≠ 0#32 ∧ ∃ c, callRxChecksum n 0#16 s = .next c ∧
      ((c.1 ≠ 0#16 ∧ r = (c.2, .icmpChecksumInvalid)) ∨
       (c.1 = 0#16 ∧ ∃ t, handOff (.icmpReceive c.2.hdr) c.2 = .next t ∧ r = (t, .success)))) := by
  unfold icmpArm at h
  split at h
  · rename_i hd; cases h; exact .inl ⟨hd, rfl⟩
  · rename_i hd
    simp only [andThen_eq_next] at h
    obtain ⟨c, hc, h⟩ := h
    refine .inr ⟨hd, c, hc, ?_⟩
    split at h
    · rename_i hz
      simp only [andThen_eq_next] at h
      obtain ⟨t, ht, h⟩ := h
      cases h
      exact .inr ⟨hz, t, ht, rfl⟩
    · rename_i hz; cases h; exact .inl ⟨hz, rfl⟩

/-- What the TCP arm can do: its status is SUCCESS in every case. -/
theorem tcpArm_eq_next {n : Nat} {s : State} {r : Ended} (h : tcpArm n s = .next r) :
    ∃ c, callRxChecksum n (phsum s.hdr.proto (BitVec.ofNat 16 n) s.hdr.src s.hdr.dst)
        (setAcc (phFoldedSum s.hdr.proto (BitVec.ofNat 16 n) s.hdr.src s.hdr.dst) s) = .next c ∧
      r.2 = .success ∧
      (r.1 = c.2 ∨
       (c.1 = 0#16 ∧ s.hdr.dst ≠ 0xFFFFFFFF#32 ∧ s.hdr.dst ≠ 0#32 ∧ handOff (.tcpRecv c.2.hdr.src n) c.2 = .next r.1)) := by
  simp only [tcpArm, andThen_eq_next] at h
  obtain ⟨c, hc, h⟩ := h
  refine ⟨c, hc, ?_⟩
  split at h
  · rename_i hz
    simp only [andThen_eq_next] at h
    obtain ⟨t, ht, h⟩ := h
    cases h
    exact ⟨rfl, .inr ⟨hz.1, hz.2.1, hz.2.2, ht⟩⟩
  · cases h; exact ⟨rfl, .inl rfl⟩

/-- What the dispatch on the protocol number can do. -/
theorem dispatchProtocol_eq_next {s : State} {r : Ended} (h : dispatchProtocol s = .next r) :
    ∃ n, payloadLength s.hdr = .next n ∧
      (icmpArm n s = .next r ∨ tcpArm n s = .next r ∨ ∃ t, callDump n s = .next t ∧ r = (t, .success)) := by
  simp only [dispatchProtocol, andThen_eq_next] at h
  obtain ⟨n, hn, h⟩ := h
  refine ⟨n, hn, ?_⟩
  split at h
  · exact .inl h
  · exact .inr (.inl h)
  · simp only [discardArm, andThen_eq_next] at h
    obtain ⟨t, ht, h⟩ := h
    cases h
    exact .inr (.inr ⟨t, ht, rfl⟩)

/-- A protocol arm by itself, on a loaded header. -/
theorem protocolArm_of_loaded {arm : Nat → State → Result Ended} {s : State} (h : s.hdrValid = true) :
    protocolArm arm s = andThen (payloadLength s.hdr) fun n =>
      andThen (arm n s) fun r => finishEnded (closeHeader r.1, r.2) := by
  unfold protocolArm; rw [readHeld_of_held h]; rfl

end Sys2Proof.Machine
end

