-- ==== Sys2Proof/Laws/EventLoop.lean ====
section
/-! SUPPORT. The pieces of the event loop, each said once. -/

namespace Sys2Proof.Machine

/-- What neighbor-resolution maintenance can do. -/
theorem arpMaintenance_eq_next {h : State → Result State} {now : Word} {s : State} {r : State × Bool}
    (e : arpMaintenance h now s = .next r) :
    (intervalPassed now s.arpTimer Config.arpInterval = true ∧
      ∃ t, h (logEvent .arpUpdate s) = .next t ∧ r = (setArpTimer now t, true)) ∨
    (intervalPassed now s.arpTimer Config.arpInterval = false ∧ r = (s, false)) := by
  unfold arpMaintenance at e
  split at e
  · rename_i hp
    simp only [andThen_eq_next] at e
    obtain ⟨t, ht, e⟩ := e
    cases e
    exact .inl ⟨hp, t, ht, rfl⟩
  · rename_i hp; cases e; exact .inr ⟨by simpa using hp, rfl⟩

/-- What transport timeout processing can do. -/
theorem tcpMaintenance_eq_next {h : State → Result State} {now : Word} {s : State} {r : State × Bool}
    (e : tcpMaintenance h now s = .next r) :
    (intervalPassed now s.tcpTimer Config.tcpInterval = true ∧
      ∃ t, h (logEvent .tcpUpdate s) = .next t ∧ r = (setTcpTimer now t, true)) ∨
    (intervalPassed now s.tcpTimer Config.tcpInterval = false ∧ r = (s, false)) := by
  unfold tcpMaintenance at e
  split at e
  · rename_i hp
    simp only [andThen_eq_next] at e
    obtain ⟨t, ht, e⟩ := e
    cases e
    exact .inl ⟨hp, t, ht, rfl⟩
  · rename_i hp; cases e; exact .inr ⟨by simpa using hp, rfl⟩

/-- The timer body is one clock value and the two arms, in that order, and needs NET_INIT. -/
theorem timerBody_eq_next {h : State → Result State} {s : State} {r : TimerResult} (e : timerBody h s = .next r) :
    s.held.timers = true ∧ ∃ a t, arpMaintenance h (callClock s).1 (callClock s).2 = .next a ∧
      tcpMaintenance h (callClock s).1 a.1 = .next t ∧ r = ⟨t.1, a.2, t.2⟩ := by
  simp only [timerBody, andThen_eq_next, readHeld_eq_next] at e
  obtain ⟨_, ⟨ht, _⟩, a, ha, t, hb, e⟩ := e
  cases e
  exact ⟨ht, a, t, ha, hb, rfl⟩

/-- An interval in numbers (44_event_loop R238). -/
theorem intervalPassed_iff {now snapshot interval : Word} :
    intervalPassed now snapshot interval = true ↔ interval.toNat ≤ (now - snapshot).toNat := by
  simp [intervalPassed, BitVec.le_def]

/-- With no frame queued none is taken. -/
theorem frameDemuxBody_of_empty {s : State} (h : s.mem.rxq = []) :
    frameDemuxBody s = .next ⟨logEvent (.linkPacketReady false) s, false, 0#16, .success⟩ := by
  unfold frameDemuxBody; rw [h]

/-- A taken frame: advanced to, its link header read, dispatched, flushed. -/
theorem frameDemuxBody_of_frame {s : State} {f : List Byte} {rest : List (List Byte)} (h : s.mem.rxq = f :: rest)
    (hl : 14 ≤ f.length) :
    frameDemuxBody s =
      andThen (dispatchFrame (etherTypeOf (f.take 14))
        { s with
          mem := { s.mem with rxq := rest, rxf := some f, rp := 14 },
          trace := s.trace ++ [.linkPacketReady true, .linkNextPacketUpdate, .linkReadBlock 14 (f.take 14)] })
        fun r => .next ⟨callFlush r.1, true, etherTypeOf (f.take 14), r.2⟩ := by
  unfold frameDemuxBody; rw [h]; dsimp only
  have e : callReadBlock Config.linkHdrLen
      (logEvent .linkNextPacketUpdate (setMem (takeFrame f rest s.mem) (logEvent (.linkPacketReady true) s))) =
      .next (f.take 14,
        { s with
          mem := { s.mem with rxq := rest, rxf := some f, rp := 14 },
          trace := s.trace ++ [.linkPacketReady true, .linkNextPacketUpdate, .linkReadBlock 14 (f.take 14)] }) := by
    rw [callReadBlock_eq_next]
    refine ⟨f, rfl, by simpa [takeFrame, Config.linkHdrLen] using hl, ?_⟩
    simp [takeFrame, advance, Config.linkHdrLen, logEvent, setMem]
  rw [e]; rfl

/-- What the dispatch on the frame type can do. -/
theorem dispatchFrame_eq_next {t : Half} {s : State} {r : Ended} (h : dispatchFrame t s = .next r) :
    (∃ u, handOff .arpReceive s = .next u ∧ r = (u, .success)) ∨ rxParseBody s = .next r ∨ r = (s, .success) := by
  unfold dispatchFrame at h
  split at h
  · simp only [arpArm, andThen_eq_next] at h
    obtain ⟨u, hu, h⟩ := h
    cases h
    exact .inl ⟨u, hu, rfl⟩
  · exact .inr (.inl h)
  · cases h; exact .inr (.inr rfl)

end Sys2Proof.Machine
end

