-- ==== Sys2Proof/Laws/Memory.lean ====
section
/-! SUPPORT. Every operation on the buffers keeps their form, and a byte written is read back. -/

namespace Sys2Proof.Machine

theorem wf_of_rxf_none {m : Memory} (h : m.rxf = none) : m.wf = true := by simp [Memory.wf, h]

theorem wf_of_rxf_some {m : Memory} {f : List Byte} (h : m.rxf = some f) : m.wf = true ↔ m.rp ≤ f.length := by
  simp [Memory.wf, h]

theorem reset_memory_wf : State.reset.mem.wf = true := rfl

/-- The form depends on the current frame and the read pointer only. -/
theorem wf_congr {m m' : Memory} (hf : m'.rxf = m.rxf) (hp : m'.rp = m.rp) : m'.wf = m.wf := by
  simp [Memory.wf, hf, hp]

theorem enqueue_wf {m : Memory} (f : List Byte) (h : m.wf = true) : (enqueue f m).wf = true := h

theorem takeFrame_wf (m : Memory) (f : List Byte) (rest : List (List Byte)) : (takeFrame f rest m).wf = true := by
  simp [takeFrame, Memory.wf]

theorem advance_wf {m : Memory} {n : Nat} {f : List Byte} (hf : m.rxf = some f) (h : m.rp + n ≤ f.length) :
    (advance n m).wf = true := by simp [advance, Memory.wf, hf, h]

theorem releaseFrame_wf (m : Memory) : (releaseFrame m).wf = true := rfl

theorem beginFrame_wf {m : Memory} (target : LinkAddr) (other : Nat → Byte) (t : Half) (h : m.wf = true) :
    (beginFrame target other t m).wf = true := h

theorem appendBytes_wf {m : Memory} (bs : List Byte) (h : m.wf = true) : (appendBytes bs m).wf = true := h

theorem overwrite_wf {m : Memory} (bs : List Byte) (o : Nat) (h : m.wf = true) : (overwrite bs o m).wf = true := h

/-- Appending moves the write pointer past the bytes (45_interfaces R259). -/
theorem appendBytes_wp (m : Memory) (bs : List Byte) : (appendBytes bs m).wp = m.wp + bs.length := by
  simp [appendBytes, Memory.wp]

/-- Overwriting leaves the write pointer where it is (45_interfaces R260). -/
theorem overwrite_wp {m : Memory} {bs : List Byte} {o : Nat} (h : o + bs.length ≤ m.wp) :
    (overwrite bs o m).wp = m.wp := by
  simp only [Memory.wp] at h
  simp [overwrite, Memory.wp]; omega

/-- Bytes already there stay when bytes are appended. -/
theorem appendBytes_txByte_of_lt {m : Memory} {bs : List Byte} {o : Nat} (h : o < m.wp) :
    (appendBytes bs m).txByte o = m.txByte o := by
  simp only [Memory.wp] at h
  simp [appendBytes, Memory.txByte, List.getElem?_append_left h]

/-- What is appended is read back. -/
theorem appendBytes_txByte_of_ge {m : Memory} {bs : List Byte} (k : Nat) :
    (appendBytes bs m).txByte (m.wp + k) = bs[k]? := by
  simp only [appendBytes, Memory.txByte, Memory.wp]
  rw [List.getElem?_append_right (by omega)]
  simp

/-- What is overwritten is read back. -/
theorem overwrite_txByte_inside {m : Memory} {bs : List Byte} {o k : Nat} (h : o + bs.length ≤ m.wp)
    (hk : k < bs.length) : (overwrite bs o m).txByte (o + k) = bs[k]? := by
  simp only [Memory.wp] at h
  simp only [overwrite, Memory.txByte, List.append_assoc]
  rw [List.getElem?_append_right (by simp), List.getElem?_append_left (by simp; omega)]
  congr 1
  simp; omega

/-- Every byte outside the overwritten ones is as before. -/
theorem overwrite_txByte_outside {m : Memory} {bs : List Byte} {o a : Nat} (h : o + bs.length ≤ m.wp)
    (ha : a < o ∨ o + bs.length ≤ a) : (overwrite bs o m).txByte a = m.txByte a := by
  simp only [Memory.wp] at h
  simp only [overwrite, Memory.txByte, List.append_assoc]
  rcases ha with ha | ha
  · rw [List.getElem?_append_left (by simp; omega), List.getElem?_take]
    simp [ha]
  · rw [List.getElem?_append_right (by simp; omega), List.getElem?_append_right (by simp; omega),
      List.getElem?_drop]
    congr 1
    simp; omega

end Sys2Proof.Machine
end

