-- ==== Sys2Proof/Laws/PerInstr.lean ====
section
/-! SUPPORT. Statements about every instruction as syntax, one lemma per constructor. -/

namespace Sys2Proof.Laws.EncodedLength

/-- An instruction's encoding has as many bytes as its format, and its format's decoder does not find it truncated
(30_encoding R91, R95, R96, R98). -/
def Statement (i : Instr) : Prop :=
  (encode i).length = (match formatOf i with
    | .cmd8 => 1
    | .etherType16 => 2
    | .ipProto8 => 1
    | .ipv4HdrByte0 => 1) ∧
  decode (formatOf i) (encode i) ≠ .error (.truncated (formatOf i))

theorem nop : Statement .nop := ⟨rfl, by simp [formatOf, encode, decode]⟩
theorem csumRx : Statement .csumRx := ⟨rfl, by simp [formatOf, encode, decode]⟩
theorem csumTx : Statement .csumTx := ⟨rfl, by simp [formatOf, encode, decode]⟩
theorem phcsum : Statement .phcsum := ⟨rfl, by simp [formatOf, encode, decode]⟩
theorem swap16 : Statement .swap16 := ⟨rfl, by simp [formatOf, encode, decode]⟩
theorem swap32 : Statement .swap32 := ⟨rfl, by simp [formatOf, encode, decode]⟩
theorem classify : Statement .classify := ⟨rfl, by simp [formatOf, encode, decode]⟩
theorem isBcast : Statement .isBcast := ⟨rfl, by simp [formatOf, encode, decode]⟩
theorem sameSubnet : Statement .sameSubnet := ⟨rfl, by simp [formatOf, encode, decode]⟩
theorem rxParse : Statement .rxParse := ⟨rfl, by simp [formatOf, encode, decode]⟩
theorem txStart : Statement .txStart := ⟨rfl, by simp [formatOf, encode, decode]⟩
theorem txSend : Statement .txSend := ⟨rfl, by simp [formatOf, encode, decode]⟩
theorem frameDemux : Statement .frameDemux := ⟨rfl, by simp [formatOf, encode, decode]⟩
theorem timerSvc : Statement .timerSvc := ⟨rfl, by simp [formatOf, encode, decode]⟩
theorem netTick : Statement .netTick := ⟨rfl, by simp [formatOf, encode, decode]⟩
theorem netInit : Statement .netInit := ⟨rfl, by simp [formatOf, encode, decode]⟩
theorem illegal10 (code : Byte) : Statement (.illegal10 code) := ⟨rfl, by simp [formatOf, encode, decode]⟩
theorem illegal20 (code : Byte) : Statement (.illegal20 code) := ⟨rfl, by simp [formatOf, encode, decode]⟩
theorem illegal40 (code : Byte) : Statement (.illegal40 code) := ⟨rfl, by simp [formatOf, encode, decode]⟩
theorem illegal80 (code : Byte) : Statement (.illegal80 code) := ⟨rfl, by simp [formatOf, encode, decode]⟩
theorem etypeArp : Statement .etypeArp := ⟨rfl, nofun⟩
theorem etypeIpv4 : Statement .etypeIpv4 := ⟨rfl, nofun⟩
theorem protoIcmp : Statement .protoIcmp := ⟨rfl, nofun⟩
theorem protoTcp : Statement .protoTcp := ⟨rfl, nofun⟩
theorem ipv4Byte0Accepted : Statement .ipv4Byte0Accepted := ⟨rfl, nofun⟩

end Sys2Proof.Laws.EncodedLength
end

