-- ==== Sys2Proof/Tests/Slice0.lean ====
section
/-! SUPPORT. The model's own tests. Expected values come from spec/95_test_vectors.md, whose vector is named, or from the
encoding tables of spec/30_encoding.md; the `witness_` theorems show that the hypotheses of the statements can be met,
each clause at a boundary value. -/

namespace Sys2Proof.Tests

-- Hundreds of small proofs in one file: elaborated one after another, so that they do not start a thread each.
set_option Elab.async false

open Sys2Proof.Machine Sys2Proof.Claims

/-! ### WellFormed: an ill-formed term for each check -/

theorem test_illformed_10_low : wellFormed (.illegal10 0x0F#8) = false := by decide
theorem test_illformed_10_high : wellFormed (.illegal10 0x20#8) = false := by decide
theorem test_illformed_20_low : wellFormed (.illegal20 0x1F#8) = false := by decide
theorem test_illformed_20_high : wellFormed (.illegal20 0x40#8) = false := by decide
theorem test_illformed_40_low : wellFormed (.illegal40 0x3F#8) = false := by decide
theorem test_illformed_40_high : wellFormed (.illegal40 0x80#8) = false := by decide
theorem test_illformed_80 : wellFormed (.illegal80 0x7F#8) = false := by decide

/-! ### Decoding: a word of each row, written out from 30_encoding R91, R95, R96, R99, R101 -/

theorem test_decode_nop : decodeTableWord 8 0x00 = some .nop := by decide
theorem test_decode_csumRx : decodeTableWord 8 0x01 = some .csumRx := by decide
theorem test_decode_csumTx : decodeTableWord 8 0x02 = some .csumTx := by decide
theorem test_decode_phcsum : decodeTableWord 8 0x03 = some .phcsum := by decide
theorem test_decode_swap16 : decodeTableWord 8 0x04 = some .swap16 := by decide
theorem test_decode_swap32 : decodeTableWord 8 0x05 = some .swap32 := by decide
theorem test_decode_classify : decodeTableWord 8 0x06 = some .classify := by decide
theorem test_decode_isBcast : decodeTableWord 8 0x07 = some .isBcast := by decide
theorem test_decode_sameSubnet : decodeTableWord 8 0x08 = some .sameSubnet := by decide
theorem test_decode_rxParse : decodeTableWord 8 0x09 = some .rxParse := by decide
theorem test_decode_txStart : decodeTableWord 8 0x0A = some .txStart := by decide
theorem test_decode_txSend : decodeTableWord 8 0x0B = some .txSend := by decide
theorem test_decode_frameDemux : decodeTableWord 8 0x0C = some .frameDemux := by decide
theorem test_decode_timerSvc : decodeTableWord 8 0x0D = some .timerSvc := by decide
theorem test_decode_netTick : decodeTableWord 8 0x0E = some .netTick := by decide
theorem test_decode_netInit : decodeTableWord 8 0x0F = some .netInit := by decide
theorem test_decode_illegal10 : decodeTableWord 8 0x10 = some (.illegal10 0x10#8) ∧
    decodeTableWord 8 0x1F = some (.illegal10 0x1F#8) := by decide
theorem test_decode_illegal20 : decodeTableWord 8 0x20 = some (.illegal20 0x20#8) ∧
    decodeTableWord 8 0x3F = some (.illegal20 0x3F#8) := by decide
theorem test_decode_illegal40 : decodeTableWord 8 0x40 = some (.illegal40 0x40#8) ∧
    decodeTableWord 8 0x7F = some (.illegal40 0x7F#8) := by decide
theorem test_decode_illegal80 : decodeTableWord 8 0x80 = some (.illegal80 0x80#8) ∧
    decodeTableWord 8 0xFF = some (.illegal80 0xFF#8) := by decide
theorem test_decode_etypeArp : decoded (decode .etherType16 [0x08#8, 0x06#8]) = some .etypeArp := by decide
theorem test_decode_etypeIpv4 : decoded (decode .etherType16 [0x08#8, 0x00#8]) = some .etypeIpv4 := by decide
/-- In a 16-bit word of the table bit 0 is the least significant bit of the type field. -/
theorem test_tableWord_etypes : decodeTableWord 16 0x0806 = some .etypeArp ∧ decodeTableWord 16 0x0800 = some .etypeIpv4 ∧
    decodeTableWord 16 0x0008 = none := by decide
theorem test_decode_protoIcmp : decoded (decode .ipProto8 [0x01#8]) = some .protoIcmp := by decide
theorem test_decode_protoTcp : decoded (decode .ipProto8 [0x06#8]) = some .protoTcp := by decide
theorem test_decode_protoUdp : decoded (decode .ipProto8 [0x11#8]) = none := by decide
theorem test_decode_byte0 : decoded (decode .ipv4HdrByte0 [0x45#8]) = some .ipv4Byte0Accepted ∧
    decoded (decode .ipv4HdrByte0 [0x54#8]) = none ∧ decoded (decode .ipv4HdrByte0 [0x46#8]) = none := by decide

/-! ### Small states -/

/-- The state an operation leaves, if it leaves one. -/
def after (r : Result State) : Option State :=
  match r with
  | .next s => some s
  | .fault _ => none
  | .refused _ => none

/-- Why an operation is refused, if it is. -/
def why (r : Result State) : Option Refusal :=
  match r with
  | .next _ => none
  | .fault _ => none
  | .refused x => some x

/-- A state that an operation leaves is the one it answers. -/
theorem next_of_after {r : Result State} {s : State} (h : after r = some s) : r = .next s := by
  cases r with
  | next t => cases h; rfl
  | fault f => cases h
  | refused x => cases h

/-- The configuration of the vectors: `10.0.0.5/24`, gateway `10.0.0.1`; every operand holds a value, NET_INIT has run. -/
def base : State :=
  { State.reset with
    cfgAddr := 0x0A000005#32, cfgMask := 0xFFFFFF00#32, cfgGw := 0x0A000001#32
    held := { Held.none with op0 := true, op1 := true, op2 := true, op3 := true, timers := true } }

/-- `base` with its operands. -/
def ops (a b c d : Word) : State := { base with op0 := a, op1 := b, op2 := c, op3 := d }

/-- The link header of the vectors, up to its type field. -/
def macs : List Byte := [0x00#8, 0x11#8, 0x22#8, 0x33#8, 0x44#8, 0x55#8, 0x02#8, 0x00#8, 0x00#8, 0x00#8, 0x00#8, 0x09#8]

/-- An IPv4 frame of the vectors. -/
def frame (header rest : List Byte) : List Byte := macs ++ [0x08#8, 0x00#8] ++ header ++ rest

/-- The frame is current and RP at its IPv4 header. -/
def received (s : State) (f : List Byte) : State := { s with mem := { s.mem with rxf := some f, rp := 14 } }

/-- The frame is at the head of RXQ. -/
def queued (s : State) (f : List Byte) : State := { s with mem := { s.mem with rxq := [f] } }

/-- The clock's next answer. -/
def withClock (s : State) (t : Word) : State := { s with env := { s.env with clock := [t] } }

/-- Header H1. -/
def h1 : List Byte :=
  [0x45, 0x00, 0x00, 0x20, 0x00, 0x00, 0x40, 0x00, 0x40, 0x01, 0x26, 0xD0, 0x0A, 0x00, 0x00, 0x09, 0x0A, 0x00, 0x00, 0x05]

/-- Header RX2. -/
def rx2 : List Byte :=
  [0x45, 0x00, 0x00, 0x20, 0x00, 0x00, 0x40, 0x00, 0x41, 0x01, 0x26, 0xD0, 0x0A, 0x00, 0x00, 0x09, 0x0A, 0x00, 0x00, 0x05]

/-- Header RX4. -/
def rx4 : List Byte :=
  [0x65, 0x00, 0x00, 0x20, 0x00, 0x00, 0x40, 0x00, 0x40, 0x01, 0x06, 0xD0, 0x0A, 0x00, 0x00, 0x09, 0x0A, 0x00, 0x00, 0x05]

/-- Header RX5. -/
def rx5 : List Byte :=
  [0x45, 0x00, 0x00, 0x20, 0x00, 0x00, 0x40, 0x00, 0x40, 0x01, 0x30, 0xD9, 0xFF, 0xFF, 0xFF, 0xFF, 0x0A, 0x00, 0x00, 0x05]

/-- Header RX5b. -/
def rx5b : List Byte :=
  [0x45, 0x00, 0x00, 0x20, 0x00, 0x00, 0x40, 0x00, 0x40, 0x01, 0x25, 0xD4, 0x0A, 0x00, 0x00, 0x09, 0x0A, 0x00, 0x01, 0x01]

/-- Header RX6. -/
def rx6 : List Byte :=
  [0x44, 0x00, 0x00, 0x20, 0x00, 0x00, 0x40, 0x00, 0x40, 0x01, 0x27, 0xD0, 0x0A, 0x00, 0x00, 0x09, 0x0A, 0x00, 0x00, 0x05]

/-- Header RX8. -/
def rx8 : List Byte :=
  [0x46, 0x00, 0x00, 0x24, 0x00, 0x00, 0x40, 0x00, 0x40, 0x01, 0x25, 0xCC, 0x0A, 0x00, 0x00, 0x09, 0x0A, 0x00, 0x00, 0x05]

/-- Header RX11. -/
def rx11 : List Byte :=
  [0x45, 0x00, 0x00, 0x1C, 0x00, 0x00, 0x40, 0x00, 0x40, 0x11, 0x26, 0xC4, 0x0A, 0x00, 0x00, 0x09, 0x0A, 0x00, 0x00, 0x05]

/-- Header RX12. -/
def rx12 : List Byte :=
  [0x45, 0x00, 0x00, 0x20, 0x00, 0x00, 0x40, 0x00, 0x40, 0x01, 0x30, 0xD5, 0x0A, 0x00, 0x00, 0x09, 0x00, 0x00, 0x00, 0x00]

/-- Header RX14. -/
def rx14 : List Byte :=
  [0x45, 0x00, 0x00, 0x28, 0x00, 0x00, 0x40, 0x00, 0x40, 0x06, 0x26, 0xC3, 0x0A, 0x00, 0x00, 0x09, 0x0A, 0x00, 0x00, 0x05]

/-- Header RX16. -/
def rx16 : List Byte :=
  [0x45, 0x00, 0x00, 0x28, 0x00, 0x00, 0x40, 0x00, 0x40, 0x06, 0x30, 0xC8, 0x0A, 0x00, 0x00, 0x09, 0xFF, 0xFF, 0xFF, 0xFF]

/-- Header RX10, ihl 15. -/
def rx10 : List Byte :=
  [0x4F, 0x00, 0x00, 0x48, 0x00, 0x00, 0x40, 0x00, 0x40, 0x01, 0x1C, 0xA8, 0x0A, 0x00, 0x00, 0x09, 0x0A, 0x00, 0x00, 0x05]

/-- Header RX22 with total length 19, its checksum made valid. -/
def rx22 : List Byte :=
  [0x45, 0x00, 0x00, 0x13, 0x00, 0x00, 0x40, 0x00, 0x40, 0x11, 0x26, 0xCD, 0x0A, 0x00, 0x00, 0x09, 0x0A, 0x00, 0x00, 0x05]

/-- Payload E1. -/
def e1 : List Byte := [0x08#8, 0x00#8, 0x21#8, 0x04#8, 0x12#8, 0x34#8, 0x00#8, 0x01#8, 0x61#8, 0x62#8, 0x63#8, 0x64#8]

/-- Segment SEG1 with its two checksum bytes and its last byte. -/
def seg (c0 c1 last : Byte) : List Byte :=
  [0x04#8, 0xD2#8, 0x00#8, 0x50#8, 0x00#8, 0x00#8, 0x00#8, 0x01#8, 0x00#8, 0x00#8, 0x00#8, 0x00#8, 0x50#8, 0x02#8, 0x20#8, 0x00#8] ++ [c0, c1, 0x00#8, last]

/-- TXBUF after the TX_START of vector TX1 (link header of the model's own: its first 14 bytes are not looked at). -/
def tx1buf : List Byte := macs ++ [0x08#8, 0x00#8] ++
  [0x45#8, 0x00#8, 0x00#8, 0x00#8, 0x00#8, 0x00#8, 0x40#8, 0x00#8, 0x40#8, 0x01#8, 0x00#8, 0x00#8, 0x0A#8, 0x00#8, 0x00#8, 0x05#8, 0x0A#8, 0x00#8, 0x00#8, 0x09#8]

/-- After TX1: a datagram is being built; `send` will succeed. -/
def building (l : Word) : State :=
  { ops l 0 0 0 with
    txActive := true, txStartPos := 14#16, held := { base.held with tx := true }
    mem := { base.mem with txbuf := tx1buf }, env := { base.env with send := [true] } }

/-- TX_START is about to be issued: the answers of `arp.lookup`, `arp.request` and `link.writeStart` are listed. -/
def starting (dest proto : Word) (lookup : List (Option LinkAddr)) (ok : Bool) : State :=
  { ops dest proto 0 0 with env := { base.env with lookup := lookup, request := [0x5A#8], writeStart := [ok] } }

/-- Link address M9. -/
def m9 : LinkAddr := 0x020000000009#48

/-! ### The operations -/

/-- R101: not even STATUS. -/
theorem test_nop :
    after (exec .nop { base with status := 0x04#8 }) = some { base with status := 0x04#8 } := by decide +kernel

/-- K14: odd length 11. -/
theorem test_csumRx :
    (after (exec .csumRx (received (ops 11 0 0 0) (frame [] e1)))).map (fun s => (s.res0, s.csumAcc, s.mem.rp)) =
      some (0x0064#32, 0xFF9B#32, 14) := by decide +kernel

/-- K15, with the upper halves of both operands set: they are ignored. -/
theorem test_csumRx_ignores_high :
    (after (exec .csumRx (received (ops 0xABCD0008 0xFFFF2904 0 0) (frame [] (e1.drop 4))))).map State.res0 = some 0#32 := by decide +kernel

/-- 2.1: the template of TX1. -/
theorem test_csumTx :
    (after (exec .csumTx { ops 14 20 0 0 with mem := { base.mem with txbuf := tx1buf } })).map (fun s => (s.res0, s.csumAcc)) =
      some (0x26F0#32, 0xD90F#32) := by decide +kernel

/-- 2.1: an empty range at the write pointer. -/
theorem test_csumTx_empty_at_end :
    (after (exec .csumTx { ops 34 0 0 0 with mem := { base.mem with txbuf := tx1buf } })).map State.res0 = some 0xFFFF#32 := by decide +kernel

/-- Q8: two folds. -/
theorem test_phcsum_two_folds :
    (after (exec .phcsum (ops 0 1 0xFFFF0000 0xFFFF0000))).map State.res0 = some 1#32 := by decide +kernel

/-- Q2 with the ignored bits of OP0 set. -/
theorem test_phcsum_low_bits :
    (after (exec .phcsum (ops 0xFFFFFF06 20 0x0A000009 0x0A000005))).map State.res0 = some 0x1428#32 := by decide +kernel

/-- W6: the upper half is ignored. -/
theorem test_swap16 :
    (after (exec .swap16 (ops 0xABCD1234 0 0 0))).map State.res0 = some 0x3412#32 := by decide +kernel

/-- W8. -/
theorem test_swap32 :
    (after (exec .swap32 (ops 0x12345678 0 0 0))).map State.res0 = some 0x78563412#32 := by decide +kernel

/-- A18: Unicast shadows Unspecified. -/
theorem test_classify_unicast_first :
    (after (exec .classify (ops 0 0 0 0))).map State.res0 = some 0#32 := by decide +kernel

/-- A4 (Scenario A). -/
theorem test_classify_broadcast :
    (after (exec .classify (ops 0x0A0000FF 0x0A000005 0xFFFFFF00 0))).map State.res0 = some 2#32 := by decide +kernel

/-- B10: no unicast test in front. -/
theorem test_isBcast :
    (after (exec .isBcast (ops 0x0A0000FF 0x0A0000FF 0 0))).map State.res0 = some 1#32 := by decide +kernel

/-- B5. -/
theorem test_isBcast_other_net :
    (after (exec .isBcast (ops 0x0A0001FF 0x0A000005 0 0))).map State.res0 = some 0#32 := by decide +kernel

/-- SS8: a non-contiguous mask, bit by bit. -/
theorem test_sameSubnet_holes :
    (after (exec .sameSubnet (ops 0x0A010005 0x0A000005 0xFF00FFFF 0))).map State.res0 = some 1#32 := by decide +kernel

/-- SS2 (Scenario D). -/
theorem test_sameSubnet_no :
    (after (exec .sameSubnet (ops 0x08080808 0x0A000005 0xFFFFFF00 0))).map State.res0 = some 0#32 := by decide +kernel

/-- RX1: accepted ICMP. -/
theorem test_rxParse_icmp :
    (after (exec .rxParse (received base (frame h1 e1)))).map (fun s => (s.status, s.mem.rp, s.csumAcc, s.hdrValid)) =
      some (0x00#8, 34, 0xFFFF#32, false) := by decide +kernel

/-- RX7 by way of RX5b: the destination is tested before ihl. -/
theorem test_rxParse_order :
    (after (exec .rxParse (received base (frame rx5b e1)))).map (fun s => (s.status, s.mem.rp)) = some (0x04#8, 34) := by decide +kernel

/-- TX11: the loopback host. -/
theorem test_txStart_refused :
    (after (exec .txStart { starting 0x0A000009 1 [] true with cfgAddr := 0x7F000001#32 })).map (fun s => (s.status, s.trace)) =
      some (0x0A#8, []) := by decide +kernel

/-- TX13: the request is for the gateway. -/
theorem test_txStart_gateway :
    (after (exec .txStart (starting 0x08080808 6 [none] true))).map (fun s => (s.status, s.trace)) =
      some (0x08#8, [.arpLookup 0x0A000001#32 none, .arpRequest 0x0A000001#32 0x5A#8]) := by decide +kernel

/-- TX1 with L = 12: the sent header. -/
theorem test_txSend :
    (after (exec .txSend (building 12))).map (fun s => (s.status, s.mem.sent.map (fun x => (x.1.drop 14, x.2)))) =
      some (0x00#8, [([0x45#8, 0x00#8, 0x00#8, 0x20#8, 0x00#8, 0x00#8, 0x40#8, 0x00#8, 0x40#8, 0x01#8, 0x26#8, 0xD0#8, 0x0A#8, 0x00#8, 0x00#8, 0x05#8, 0x0A#8, 0x00#8, 0x00#8, 0x09#8], true)]) := by decide +kernel

/-- TX16: a TX_SEND with TX_ACTIVE = 0. -/
theorem test_txSend_twice :
    why (exec .txSend { building 12 with txActive := false }) = some .sendWithoutStart := by decide +kernel

/-- F7: a rejected datagram is flushed. -/
theorem test_frameDemux_rejected :
    (after (exec .frameDemux (queued base (frame rx5b e1)))).map (fun s => (s.status, s.res0, s.mem.rxf, s.mem.rxq)) =
      some (0x04#8, 0x08000001#32, none, []) := by decide +kernel

/-- F5: the type is read most-significant byte first. -/
theorem test_frameDemux_swapped_type :
    (after (exec .frameDemux (queued base (macs ++ [0x00#8, 0x08#8] ++ h1 ++ e1)))).map (fun s => (s.status, s.res0)) =
      some (0x00#8, 0x00080001#32) := by decide +kernel

/-- T7: a difference of 10 across the wrap. -/
theorem test_timerSvc_wrap :
    (after (exec .timerSvc (withClock { base with arpTimer := 0xFFFFFFFB#32, tcpTimer := 0xFFFFFFFB#32 } 5))).map
      (fun s => (s.res0, s.arpTimer, s.tcpTimer)) = some (6#32, 5#32, 5#32) := by decide +kernel

/-- T6: the snapshot becomes the clock value. -/
theorem test_timerSvc_late :
    (after (exec .timerSvc (withClock { base with arpTimer := 100#32, tcpTimer := 100#32 } 115))).map
      (fun s => (s.res0, s.arpTimer)) = some (6#32, 115#32) := by decide +kernel

/-- L5: a rejected datagram does not stop the timers, and they do not clear its status. -/
theorem test_netTick_status :
    (after (exec .netTick (withClock { queued base (frame rx5b e1) with arpTimer := 100#32, tcpTimer := 100#32 } 101))).map
      (fun s => (s.status, s.res0)) = some (0x04#8, 0x08000005#32) := by decide +kernel

/-- L2. -/
theorem test_netTick_idle :
    (after (exec .netTick (withClock { base with arpTimer := 100#32, tcpTimer := 100#32 } 110))).map
      (fun s => (s.res0, s.trace)) =
      some (6#32, [.linkEventHandler, .linkPacketReady false, .clockNow 110#32, .arpUpdate, .tcpUpdate]) := by decide +kernel

/-- NET_INIT at clock value 100, from reset. -/
theorem test_netInit :
    (after (exec .netInit (withClock State.reset 100))).map (fun s => (s.status, s.arpTimer, s.tcpTimer, s.held.timers, s.trace)) =
      some (0x00#8, 100#32, 100#32, true, [.arpInit, .tcpInit, .clockNow 100#32]) := by decide +kernel

/-- R294 at the ends of the ranges. -/
theorem test_illegal_bounds :
    (after (exec (decodeCmd 0x10#8) base)).map State.status = some 0x0B#8 ∧
    (after (exec (decodeCmd 0xFF#8) base)).map State.status = some 0x0B#8 := by decide +kernel

/-- F3's arm. -/
theorem test_etypeArp :
    (after (exec .etypeArp base)).map (fun s => (s.status, s.trace)) = some (0x00#8, [.arpReceive]) := by decide +kernel

/-- RX2 through the IPv4 arm. -/
theorem test_etypeIpv4 :
    (after (exec .etypeIpv4 (received base (frame rx2 e1)))).map (fun s => (s.status, s.mem.rp, s.csumAcc)) =
      some (0x01#8, 14, 0x0100#32) := by decide +kernel

/-- A header is loaded and RP is at its payload. -/
def loaded (header rest : List Byte) : State :=
  { received base (frame header rest) with
    hdr := loadHeader header, hdrValid := true
    mem := { base.mem with rxf := some (frame header rest), rp := 34 } }

/-- RX13b's arm: an empty ICMP payload. -/
theorem test_protoIcmp_empty :
    (after (exec .protoIcmp (loaded ([0x45#8, 0x00#8, 0x00#8, 0x14#8, 0x00#8, 0x00#8, 0x40#8, 0x00#8, 0x40#8, 0x01#8, 0x26#8, 0xDC#8, 0x0A#8, 0x00#8, 0x00#8, 0x09#8, 0x0A#8, 0x00#8, 0x00#8, 0x05#8]) []))).map
      (fun s => (s.status, s.csumAcc)) = some (0x07#8, 0#32) := by decide +kernel

/-- RX14's arm. -/
theorem test_protoTcp :
    (after (exec .protoTcp (loaded rx14 (seg 0x76#8 0xB2#8 0x00#8)))).map (fun s => (s.status, s.trace)) =
      some (0x00#8, [.linkComputeRxChecksum 20 0x1428#16 0#16, .tcpRecv 0x0A000009#32 20]) := by decide +kernel

/-- RX16's arm: no hand-off. -/
theorem test_protoTcp_limited_broadcast :
    (after (exec .protoTcp (loaded rx16 (seg 0x80#8 0xB7#8 0x00#8)))).map (fun s => (s.status, s.trace)) =
      some (0x00#8, [.linkComputeRxChecksum 20 0x0A23#16 0#16]) := by decide +kernel

/-- R91. -/
theorem test_ipv4Byte0Accepted :
    (after (exec .ipv4Byte0Accepted base)).map (fun s => (s.hdr.version, s.hdr.ihl)) = some (4#4, 5#4) := by decide +kernel

/-- A table word placed at reset is the next command that runs. -/
theorem test_step_from_reset :
    (after (step (State.reset.withFetchWord 8 0x04))).map (fun s => (s.cmd, s.status, s.held.res0)) = some (0x04#8, 0x00#8, true) ∧
    (after (step (State.reset.withFetchWord 16 0x0806))).map (fun s => (s.cmd, s.res0)) = some (0x0C#8, 0x08060001#32) := by decide +kernel

/-! ### Witnesses: the hypotheses of the statements can be met -/

theorem witness_DecodeOfEncode :
    wellFormed (.illegal10 0x10#8) = true ∧ wellFormed (.illegal10 0x1F#8) = true ∧ wellFormed (.illegal20 0x20#8) = true ∧
    wellFormed (.illegal20 0x3F#8) = true ∧ wellFormed (.illegal40 0x40#8) = true ∧ wellFormed (.illegal40 0x7F#8) = true ∧
    wellFormed (.illegal80 0x80#8) = true ∧ wellFormed (.illegal80 0xFF#8) = true ∧ wellFormed .etypeArp = true := by decide +kernel

theorem witness_StepRunsTheCommandWritten :
    ({ base with inputs := [.writeReg 3 255#32] } : State).inputs = .writeReg 3 255#32 :: [] ∧ (255#32).toNat < 256 ∧
    256 ≤ (256#32).toNat ∧ after (writeRegister 2 7#32 base) = some { base with cfgGw := 7#32 } ∧
    why (writeRegister 10 7#32 base) = some (.noSuchRegister 10) ∧ (∃ w, readRegister 9 base = .next w) ∧
    readRegister 8 base = .refused (.registerHoldsNoValue 8) ∧ (after (outsideLink .flush base)).isSome = true ∧
    why (outsideLink (.dump 0#16) base) = some .rxNoFrame ∧ base.inputs = [] := by exact ⟨rfl, by decide, by decide, by decide, by decide, ⟨_, rfl⟩, rfl, by decide, by decide, rfl⟩

theorem witness_StepKeepsInvariant :
    Sys2Proof.Safety.Inv State.reset ∧ ∃ t, step State.reset = .next t := by exact ⟨⟨by decide, by decide, by decide, by decide, by decide⟩, _, rfl⟩

theorem witness_OperationsKeepConfiguration :
    (after (exec .rxParse (received base (frame h1 e1)))).isSome = true := by decide +kernel

theorem witness_NeverRefused :
    base.held.op0 = true ∧ base.held.op1 = true ∧ base.held.op2 = true ∧ base.held.op3 = true ∧
    base.held.timers = true ∧ base.env.handoffs = [] ∧ State.reset.env.handoffs = [] := by decide +kernel

theorem witness_ChecksumWordsWrittenOut :
    ([] : List Byte).length % 2 = 0 ∧ e1.length % 2 = 0 := by decide +kernel

theorem witness_FoldIsEndAroundCarry :
    (0xFFFFFFFF : Nat) < 2 ^ 32 ∧ (0xFFFFFFFF : Nat) ≠ 0 ∧ 0xFFFFFFFF % 0xFFFF = 0 ∧ (0x1FFFF : Nat) % 0xFFFF ≠ 0 := by decide +kernel

theorem witness_ChecksumZeroAndAllOnes :
    (List.replicate 65535 0xFF#8).length ≤ 65535 := by rw [List.length_replicate]

theorem witness_ChecksumSeedingLaw :
    (e1.take 4).length % 2 = 0 ∧ (e1.take 4 ++ e1.drop 4).length ≤ 65535 := by decide +kernel

theorem witness_StoredChecksumVerifies :
    (h1.take 10).length % 2 = 0 ∧ (h1.drop 12).length % 2 = 0 ∧ (h1.take 10 ++ [0#8, 0#8] ++ h1.drop 12).length ≤ 65535 := by decide +kernel

theorem witness_SingleBitFlipIsDetected :
    7 < 8 ∧ (h1.take 8 ++ [0x40#8] ++ h1.drop 9).length ≤ 65535 ∧ csum (h1.take 8 ++ [0x40#8] ++ h1.drop 9) 0#16 = 0x0000#16 := by decide +kernel

theorem witness_NopAndIllegalCommands :
    0x10 ≤ (0x10#8 : Byte).toNat ∧ 0x10 ≤ (0xFF#8 : Byte).toNat := by decide +kernel

theorem witness_CsumRxResult :
    base.held.op0 = true ∧ base.held.op1 = true ∧ base.mem.rxf = none ∧
    (received (ops 12 0 0 0) (frame [] e1)).mem.rxf = some (frame [] e1) ∧
    14 + ((13#32 : Word).extractLsb' 0 16).toNat = (frame [] e1).length + 1 ∧
    14 + ((12#32 : Word).extractLsb' 0 16).toNat = (frame [] e1).length := by decide +kernel

theorem witness_CsumTxResult :
    base.held.op0 = true ∧ base.held.op1 = true ∧ base.held.op2 = true ∧
    tx1buf.length < ((14#32 : Word).extractLsb' 0 16).toNat + ((21#32 : Word).extractLsb' 0 16).toNat ∧
    ((14#32 : Word).extractLsb' 0 16).toNat + ((20#32 : Word).extractLsb' 0 16).toNat ≤ tx1buf.length := by decide +kernel

theorem witness_PhcsumResult :
    base.held.op0 = true ∧ base.held.op1 = true ∧ base.held.op2 = true ∧ base.held.op3 = true := by decide +kernel

theorem witness_Swap16Result :
    (ops 1 0 0 0).held.op0 = true := by decide +kernel

theorem witness_Swap32Result :
    (ops 1 0 0 0).held.op0 = true := by decide +kernel

theorem witness_ClassifyResult :
    (ops 5 5 0 0).op0 = (ops 5 5 0 0).op1 ∧ (ops 0 5 0 0).op0 ≠ (ops 0 5 0 0).op1 ∧ (ops 0 5 0 0).op0 = 0#32 ∧
    bcastForm 0x0A0000FF#32 0x0A000005#32 ∧ ¬ bcastForm 0xE0000001#32 0x0A000005#32 ∧ ¬ forUs 0x0A000101#32 0x0A000005#32 ∧
    base.held.op0 = true ∧ base.held.op1 = true ∧ base.held.op2 = true := by unfold forUs bcastForm; decide +kernel

theorem witness_IsBcastResult :
    bcastForm 0xFFFFFFFF#32 0x0A000005#32 ∧ ¬ bcastForm 0x0A000005#32 0x0A000005#32 ∧ base.held.op0 = true ∧ base.held.op1 = true := by unfold bcastForm; decide +kernel

theorem witness_SameSubnetResult :
    base.held.op0 = true ∧ base.held.op1 = true ∧ base.held.op2 = true := by decide +kernel

theorem witness_OperandWithoutValueRefused :
    State.reset.held.op0 = false ∧ ({ base.held with op1 := false } : Held).op0 = true ∧
    ({ base.held with op1 := false } : Held).op1 = false ∧ ({ base.held with op2 := false } : Held).op2 = false ∧
    ({ base.held with op3 := false } : Held).op3 = false := by decide +kernel

theorem witness_RxRejectsBadHeaderSum :
    receives .rxParse ∧ receives .etypeIpv4 ∧ base.hdrValid = false ∧
    (received base (frame rx2 [])).mem.rxf = some (frame rx2 []) ∧ 14 + 20 ≤ (frame rx2 []).length ∧
    csum (ahead (received base (frame rx2 [])) (frame rx2 []) 20) 0#16 ≠ 0#16 := by unfold receives; decide +kernel

theorem witness_RxRejectionOrder :
    (∀ h ∈ [rx4, rx5, rx5b, rx6], csum (ahead (received base (frame h [])) (frame h []) 20) 0#16 = 0#16) ∧
    (loadHeader rx4).version ≠ 4#4 ∧ (loadHeader rx5).version = 4#4 ∧ (loadHeader rx5).src = 0xFFFFFFFF#32 ∧
    (loadHeader rx5b).version = 4#4 ∧ (loadHeader rx5b).src ≠ 0xFFFFFFFF#32 ∧ ¬ forUs (loadHeader rx5b).dst base.cfgAddr ∧
    (loadHeader rx6).version = 4#4 ∧ (loadHeader rx6).src ≠ 0xFFFFFFFF#32 ∧ forUs (loadHeader rx6).dst base.cfgAddr ∧
    (loadHeader rx6).ihl.toNat = 4 := by unfold forUs bcastForm; decide +kernel

theorem witness_RxSkipsOptions :
    (∀ h ∈ [(rx8, 4), (rx10, 40)], csum (ahead (received base (frame h.1 (List.replicate h.2 0#8)))
        (frame h.1 (List.replicate h.2 0#8)) 20) 0#16 = 0#16 ∧
      (loadHeader h.1).version = 4#4 ∧ (loadHeader h.1).src ≠ 0xFFFFFFFF#32 ∧ forUs (loadHeader h.1).dst base.cfgAddr ∧
      14 + (loadHeader h.1).ihl.toNat * 4 = (frame h.1 (List.replicate h.2 0#8)).length ∧ 5 < (loadHeader h.1).ihl.toNat) := by unfold forUs bcastForm; decide +kernel

theorem witness_RxDispatchesProtocol :
    (∀ h ∈ [h1, rx14], csum (ahead (received base (frame h [])) (frame h []) 20) 0#16 = 0#16 ∧
      14 + 20 ≤ (frame h []).length ∧ (loadHeader h).version = 4#4 ∧ (loadHeader h).src ≠ 0xFFFFFFFF#32 ∧
      forUs (loadHeader h).dst base.cfgAddr ∧ (loadHeader h).ihl = 5#4) ∧
    (loadHeader h1).proto = 1#8 ∧ (loadHeader rx14).proto = 6#8 := by unfold forUs bcastForm; decide +kernel

theorem witness_RxDiscardsOtherProtocols :
    csum (ahead (received base (frame rx11 (List.replicate 8 0#8))) (frame rx11 (List.replicate 8 0#8)) 20) 0#16 = 0#16 ∧
    14 + (loadHeader rx11).len.toNat = (frame rx11 (List.replicate 8 0#8)).length ∧ 20 ≤ (loadHeader rx11).len.toNat ∧
    (loadHeader rx11).version = 4#4 ∧ (loadHeader rx11).src ≠ 0xFFFFFFFF#32 ∧ forUs (loadHeader rx11).dst base.cfgAddr ∧
    (loadHeader rx11).ihl = 5#4 ∧ (loadHeader rx11).proto ≠ 1#8 ∧ (loadHeader rx11).proto ≠ 6#8 := by unfold forUs bcastForm; decide +kernel

/-- The collaborator called in a state with no script returns at once. -/
theorem collaboratorReturns_self {s : State} (h : s.env.handoffs = []) : collaboratorReturns s s := .inl ⟨h, rfl⟩

theorem witness_IcmpArmOutcomes :
    (loaded h1 e1).hdrValid = true ∧ (loadHeader h1).len.toNat = (loadHeader h1).ihl.toNat * 4 + 12 ∧
    (loadHeader h1).dst ≠ 0#32 ∧ (loadHeader rx12).dst = 0#32 ∧ (loaded h1 e1).mem.rp + 12 = (frame h1 e1).length ∧
    csum (ahead (loaded h1 e1) (frame h1 e1) 12) 0#16 = 0#16 ∧
    csum (ahead (loaded h1 (List.replicate 12 0#8)) (frame h1 (List.replicate 12 0#8)) 12) 0#16 ≠ 0#16 ∧
    (loaded h1 e1).env.handoffs = [] := by decide +kernel

theorem witness_TcpArmOutcomes :
    (loaded rx14 (seg 0x76#8 0xB2#8 0x00#8)).hdrValid = true ∧
    (loadHeader rx14).len.toNat = (loadHeader rx14).ihl.toNat * 4 + 20 ∧
    34 + 20 = (frame rx14 (seg 0x76#8 0xB2#8 0x00#8)).length ∧
    csum (ahead (loaded rx14 (seg 0x76#8 0xB2#8 0x00#8)) (frame rx14 (seg 0x76#8 0xB2#8 0x00#8)) 20)
      (phsum 6#8 (BitVec.ofNat 16 20) (loadHeader rx14).src (loadHeader rx14).dst) = 0#16 ∧
    csum (ahead (loaded rx14 (seg 0x76#8 0xB2#8 0x01#8)) (frame rx14 (seg 0x76#8 0xB2#8 0x01#8)) 20)
      (phsum 6#8 (BitVec.ofNat 16 20) (loadHeader rx14).src (loadHeader rx14).dst) ≠ 0#16 ∧
    (loadHeader rx14).dst ≠ 0xFFFFFFFF#32 ∧ (loadHeader rx14).dst ≠ 0#32 ∧ (loadHeader rx16).dst = 0xFFFFFFFF#32 := by decide +kernel

/-- Header RX11 with protocol 1 and with protocol 6 in place of 17, its checksum made valid: 28 bytes are claimed. -/
def rxOf (h : Byte × Byte × Byte) : List Byte :=
  rx11.take 9 ++ [h.1, h.2.1, h.2.2] ++ rx11.drop 12

theorem witness_RxRefusals :
    base.mem.rxf = none ∧ (frame (h1.take 19) []).length + 1 = 14 + 20 ∧ 14 + 20 = (frame rx22 []).length ∧
    csum (ahead (received base (frame rx22 [])) (frame rx22 []) 20) 0#16 = 0#16 ∧ (loadHeader rx22).version = 4#4 ∧
    (loadHeader rx22).src ≠ 0xFFFFFFFF#32 ∧ forUs (loadHeader rx22).dst base.cfgAddr ∧ (loadHeader rx22).ihl = 5#4 ∧
    (loadHeader rx22).len.toNat = 19 := by unfold forUs bcastForm; decide +kernel

theorem witness_RxRefusals_options :
    ∀ h ∈ [(rx8, 3), (rx10, 39)],
      csum (ahead (received base (frame h.1 (List.replicate h.2 0#8)))
        (frame h.1 (List.replicate h.2 0#8)) 20) 0#16 = 0#16 ∧
      (loadHeader h.1).version = 4#4 ∧ (loadHeader h.1).src ≠ 0xFFFFFFFF#32 ∧ forUs (loadHeader h.1).dst base.cfgAddr ∧
      (frame h.1 (List.replicate h.2 0#8)).length + 1 = 14 + (loadHeader h.1).ihl.toNat * 4 ∧
      5 < (loadHeader h.1).ihl.toNat := by unfold forUs bcastForm; decide +kernel

theorem witness_RxRefusals_payload :
    ∀ h ∈ [rx11, rxOf (0x01, 0x26, 0xD4), rxOf (0x06, 0x26, 0xCF)],
      csum (ahead (received base (frame h (List.replicate 7 0#8))) (frame h (List.replicate 7 0#8)) 20) 0#16 = 0#16 ∧
      (loadHeader h).version = 4#4 ∧ (loadHeader h).src ≠ 0xFFFFFFFF#32 ∧ forUs (loadHeader h).dst base.cfgAddr ∧
      (loadHeader h).ihl = 5#4 ∧ 20 ≤ (loadHeader h).len.toNat ∧
      (frame h (List.replicate 7 0#8)).length + 1 = 14 + (loadHeader h).len.toNat ∧
      ((loadHeader h).proto ≠ 1#8 ∨ (loadHeader h).dst ≠ 0#32) := by unfold forUs bcastForm; decide +kernel

theorem witness_NeverHandedOver :
    (after (exec .rxParse (received base (frame rx6 e1)))).isSome = true ∧ (loadHeader rx6).ihl ≠ 5#4 ∧
    (after (exec .etypeIpv4 (received base (frame rx16 (seg 0x80#8 0xB7#8 0x00#8))))).isSome = true ∧
    (loadHeader rx16).proto = 6#8 ∧ (loadHeader rx16).dst = 0xFFFFFFFF#32 := by decide +kernel

theorem witness_HeaderUnreadableAfterReceive :
    (after (exec .rxParse (received base (frame h1 e1)))).isSome = true := by decide +kernel

theorem witness_ReceiveIgnoresMaskAndGateway :
    base.env.handoffs = [] ∧ (after (exec .rxParse (received base (frame h1 e1)))).isSome = true ∧
    (why (exec .rxParse base)).isSome = true := by decide +kernel

theorem witness_TxStartRefusesUnusableHost :
    ¬ mayStart { base with cfgAddr := 0x7F000001#32 } 1#8 := by unfold mayStart; decide +kernel

theorem witness_TxStartPendingOnMiss :
    mayStart base 1#8 ∧ ¬ bcastForm 0x0A000009#32 base.cfgAddr ∧ (starting 0x0A000009 1 [none] true).env.lookup = none :: [] ∧
    (starting 0x0A000009 1 [none] true).env.request = 0x5A#8 :: [] := by exact ⟨⟨.inl (by decide), by decide⟩, by unfold bcastForm; decide, rfl, rfl⟩

theorem witness_TxStartLinkError :
    mayStart base 1#8 ∧ (starting 0x0A000009 1 [some m9] false).env.writeStart = false :: [] ∧
    ∃ env calls, resolves (starting 0x0A000009 1 [some m9] false) 0x0A000009#32 m9 env calls := by exact ⟨⟨.inl (by decide), by decide⟩, rfl, _, _, .inr ⟨by unfold bcastForm; decide, [], rfl, rfl, rfl⟩⟩

theorem witness_TxStartEmitsTemplate :
    (starting 0x0A0000FF 1 [] true).env.writeStart = true :: [] ∧
    (∃ env calls, resolves (starting 0x0A0000FF 1 [] true) 0x0A0000FF#32 0xFFFFFFFFFFFF#48 env calls) ∧
    ∃ env calls, resolves (starting 0x0A000009 1 [some m9] true) 0x0A000009#32 m9 env calls := by exact ⟨rfl, ⟨_, _, .inl ⟨by unfold bcastForm; decide, rfl, rfl, rfl⟩⟩,
    _, _, .inr ⟨by unfold bcastForm; decide, [], rfl, rfl, rfl⟩⟩

theorem witness_TxSendResult :
    sendReady (building 65515) ∧ (building 65515).env.send = true :: [] := by unfold sendReady; decide +kernel

theorem witness_TxSendPatchesFourBytes :
    sendReady (building 0) ∧ (after (exec .txSend (building 0))).isSome = true := by unfold sendReady; decide +kernel

theorem witness_TxSendRefusals :
    base.held.op0 = true ∧ base.txActive = false ∧ (building 65516).txActive = true ∧
    ((building 65516).op0.extractLsb' 0 16).toNat = 65516 ∧ ((building 65515).op0.extractLsb' 0 16).toNat ≤ 65515 ∧
    (tx1buf.take 33).length < (building 65515).txStartPos.toNat + 20 := by decide +kernel

theorem witness_TransmitRoundTrip :
    (after (exec .txStart (starting 0x0A0000FF 1 [] true))).map State.status = some 0x00#8 ∧
    ((65515#32 : Word).extractLsb' 0 16).toNat ≤ 65515 := by decide +kernel

theorem witness_FrameDemuxEmptyQueue :
    base.mem.rxq = [] := by decide +kernel

theorem witness_FrameDemuxDispatchesType :
    (queued base (macs ++ [0x08#8, 0x06#8])).mem.rxq = (macs ++ [0x08#8, 0x06#8]) :: [] ∧
    (macs ++ [0x08#8, 0x06#8]).length = 14 ∧ typeField (macs ++ [0x08#8, 0x06#8]) = 0x0806#16 ∧
    (after (exec .etypeArp (frameTaken base (macs ++ [0x08#8, 0x06#8]) []))).isSome = true ∧
    typeField (frame h1 e1) = 0x0800#16 ∧ (after (exec .etypeIpv4 (frameTaken base (frame h1 e1) []))).isSome = true ∧
    typeField (macs ++ [0x86#8, 0xDD#8]) ≠ 0x0806#16 ∧ typeField (macs ++ [0x86#8, 0xDD#8]) ≠ 0x0800#16 := by decide +kernel

theorem witness_FrameDemuxAlwaysReleases :
    (after (exec .frameDemux (queued base (frame h1 e1)))).isSome = true ∧ base.env.handoffs = [] := by decide +kernel

theorem witness_ArpFrameHandedOver :
    collaboratorReturns { base with trace := [.arpReceive] } { base with trace := [.arpReceive] } := by exact collaboratorReturns_self rfl

theorem witness_TimerSvcResult :
    base.held.timers = true ∧ base.env.handoffs = [] ∧ (withClock base 10).env.clock = 10#32 :: [] ∧
    (true = true ↔ due 10#32 base.arpTimer 10) ∧ (false = true ↔ due 9#32 base.arpTimer 10) ∧
    (true = true ↔ due 1#32 base.tcpTimer 1) ∧ (false = true ↔ due 0#32 base.tcpTimer 1) := by unfold due; decide +kernel

theorem witness_EventLoopRefusals :
    (macs ++ [0x08#8]).length = 13 ∧ State.reset.held.timers = false ∧ nextArrivals State.reset [] [] ∧
    State.reset.mem.rxq ++ [] = ([] : List (List Byte)) ∧
    nextArrivals { base with env := { base.env with arrivals := [[macs]] } } [macs] [] ∧
    base.mem.rxq ++ [macs] = macs :: [] ∧
    (after (exec .frameDemux (eventsHandled State.reset [macs ++ [0x86#8, 0xDD#8]] []))).isSome = true := by unfold nextArrivals; decide +kernel

theorem witness_NetTickWithoutFrame :
    base.held.timers = true ∧ base.env.handoffs = [] ∧ base.mem.rxq = [] ∧ base.env.arrivals = [] ∧
    (withClock base 10).env.clock = 10#32 :: [] ∧ (true = true ↔ due 10#32 base.arpTimer 10) ∧
    (true = true ↔ due 10#32 base.tcpTimer 1) := by unfold due; decide +kernel

theorem witness_NetTickIsThreeSteps :
    base.env.handoffs = [] ∧ nextArrivals base [] [] ∧
    ∃ u v, exec .frameDemux (eventsHandled (withClock base 10#32) [frame rx5b e1] []) = .next u ∧ exec .timerSvc u = .next v := by
  refine ⟨rfl, .inr ⟨rfl, rfl, rfl⟩, ?_⟩
  have h : ((after (exec .frameDemux (eventsHandled (withClock base 10#32) [frame rx5b e1] []))).bind
      fun u => after (exec .timerSvc u)).isSome = true := by decide +kernel
  cases hu : after (exec .frameDemux (eventsHandled (withClock base 10#32) [frame rx5b e1] [])) with
  | none => rw [hu] at h; cases h
  | some u =>
    cases hv : after (exec .timerSvc u) with
    | none => rw [hu, Option.bind_some, hv] at h; cases h
    | some v => exact ⟨u, v, next_of_after hu, next_of_after hv⟩

theorem witness_NetInitResult :
    State.reset.env.handoffs = [] ∧ (withClock State.reset 100).env.clock = 100#32 :: [] := by decide +kernel

theorem witness_OutsideAccessByRegister :
    ¬ existingRegister 10 ∧ ¬ existingRegister 15 ∧ ¬ existingRegister 49 ∧ existingRegister 8 ∧ ¬ outsideRegister 8 ∧
    existingRegister 48 ∧ outsideRegister 0 ∧ outsideRegister 7 := by unfold existingRegister outsideRegister; decide

/-- A collaborator is about to do what `script` says, and later ones what `later` says. -/
def scripted (script : List Input) (later : List (List Input)) : State :=
  { building 12 with env := { (building 12).env with handoffs := script :: later } }

theorem witness_NestedOperations :
    base.env.handoffs = [] ∧ (scripted [] [[]]).env.handoffs = [] :: [[]] ∧
    (scripted [.writeReg 3 0x0B#32] []).env.handoffs = [.writeReg 3 0x0B#32] :: [] ∧
    (∀ a ∈ [Input.writeReg 3 0x0B#32, .writeReg 3 0xFF#32, .writeReg 4 0#32, .readReg 9, .arrive [], .link .flush],
      (after (nestedAction a (building 12))).isSome = true) ∧
    ∀ a ∈ [(Input.writeReg 3 0x09#32, Refusal.nestedReceive), (.writeReg 3 0x0F#32, .nestedReceive),
        (.writeReg 3 0x100#32, .valueTooWide 3), (.writeReg 0 0#32, .configDuringOperation),
        (.writeReg 2 0#32, .configDuringOperation), (.link (.dump 0#16), .rxNoFrame)],
      why (nestedAction a.1 (building 12)) = some a.2 := by decide +kernel

/-- R76: two actions of a collaborator run in order, and the first that has no meaning ends it. -/
theorem test_nested_order :
    (after (collaborate (scripted [.writeReg 3 0x0B#32, .readReg 9] []))).map (fun s => (s.txActive, s.answer)) =
      some (false, .value 0#48) ∧
    why (collaborate (scripted [.writeReg 3 0x0B#32, .writeReg 3 0x0B#32] [])) = some .sendWithoutStart := by decide +kernel

theorem witness_LinkCallsOnBuffers :
    base.mem.rxf = none ∧ base.mem.rxq = [] ∧ (queued base e1).mem.rxq = e1 :: [] ∧
    (received base (frame h1 e1)).mem.rxf = some (frame h1 e1) ∧ 14 + (32#16 : Half).toNat = (frame h1 e1).length ∧
    (frame h1 e1).length < 14 + (33#16 : Half).toNat ∧
    (32#16 : Half).toNat + [0x00#8, 0x20#8].length = (building 0).mem.wp ∧
    (building 0).mem.wp < (33#16 : Half).toNat + [0x00#8, 0x20#8].length ∧
    (starting 0 0 [] true).env.writeStart = true :: [] ∧ (starting 0 0 [] false).env.writeStart = false :: [] ∧
    (building 0).env.send = true :: [] := by decide +kernel

end Sys2Proof.Tests
end

