-- ==== Sys2Proof/Proofs/Scope.lean ====
section
/-! PROOFS. Which operations are never refused (00_scope R13). Two layers: an operation whose operands hold a value is an
equation to its end, and a predicate `Meaningful` that sequencing keeps, so that it climbs from the reads and the link
calls through the hand-offs to `exec` and `step`. -/

namespace Sys2Proof.Machine

/-! ### Operations that end: their operands hold a value, or no script is pending -/

/-- OP0 is read where it holds a value. -/
theorem operand0_of_held {s : State} (h : s.held.op0 = true) : operand0 s = .next s.op0 := readHeld_of_held h _ _

/-- OP1 is read where it holds a value. -/
theorem operand1_of_held {s : State} (h : s.held.op1 = true) : operand1 s = .next s.op1 := readHeld_of_held h _ _

/-- OP2 is read where it holds a value. -/
theorem operand2_of_held {s : State} (h : s.held.op2 = true) : operand2 s = .next s.op2 := readHeld_of_held h _ _

/-- OP3 is read where it holds a value. -/
theorem operand3_of_held {s : State} (h : s.held.op3 = true) : operand3 s = .next s.op3 := readHeld_of_held h _ _

/-- SWAP16 with its operand (40_checksum R136). -/
theorem execSwap16_of_held {s : State} (h0 : s.held.op0 = true) :
    execSwap16 s = finishWith (zext32 (swapBytes16 (low16 s.op0))) s := by
  rw [execSwap16, operand0_of_held h0, andThen_next]

/-- SWAP32 with its operand (40_checksum R137). -/
theorem execSwap32_of_held {s : State} (h0 : s.held.op0 = true) :
    execSwap32 s = finishWith (swapBytes32 s.op0) s := by
  rw [execSwap32, operand0_of_held h0, andThen_next]

/-- IS_BCAST with its operands (41_classifier R154). -/
theorem execIsBcast_of_held {s : State} (h0 : s.held.op0 = true) (h1 : s.held.op1 = true) :
    execIsBcast s = finishWith (boolWord (isBcast s.op0 s.op1)) s := by
  rw [execIsBcast, operand0_of_held h0, andThen_next, operand1_of_held h1, andThen_next]

/-- CLASSIFY with its operands (41_classifier R153). -/
theorem execClassify_of_held {s : State} (h0 : s.held.op0 = true) (h1 : s.held.op1 = true)
    (h2 : s.held.op2 = true) : execClassify s = finishWith (classCode (classify s.op0 s.op1)) s := by
  rw [execClassify, operand0_of_held h0, andThen_next, operand1_of_held h1, andThen_next, operand2_of_held h2,
    andThen_next]

/-- SAME_SUBNET with its operands (41_classifier R155). -/
theorem execSameSubnet_of_held {s : State} (h0 : s.held.op0 = true) (h1 : s.held.op1 = true)
    (h2 : s.held.op2 = true) : execSameSubnet s = finishWith (boolWord (sameSubnet s.op0 s.op1 s.op2)) s := by
  rw [execSameSubnet, operand0_of_held h0, andThen_next, operand1_of_held h1, andThen_next, operand2_of_held h2,
    andThen_next]

/-- PHCSUM with its operands (40_checksum R135). -/
theorem execPhcsum_of_held {s : State} (h0 : s.held.op0 = true) (h1 : s.held.op1 = true)
    (h2 : s.held.op2 = true) (h3 : s.held.op3 = true) :
    execPhcsum s = finishWith (zext32 (phsum (low8 s.op0) (low16 s.op1) s.op2 s.op3))
      (setAcc (phFoldedSum (low8 s.op0) (low16 s.op1) s.op2 s.op3) s) := by
  rw [execPhcsum, operand0_of_held h0, andThen_next, operand1_of_held h1, andThen_next, operand2_of_held h2,
    andThen_next, operand3_of_held h3, andThen_next]

/-- From the link target on TX_START ends: with SUCCESS, or with LINK_ERROR (43_transmit R205). -/
theorem emitTemplate_ends (target : LinkAddr) (host dest : Word) (protocol : Byte) (s : State) :
    ∃ t, emitTemplate target host dest protocol s = .next t := by
  unfold emitTemplate
  dsimp only
  split
  · exact ⟨_, rfl⟩
  · exact ⟨_, rfl⟩

/-- TX_START with its operands ends in each of its branches: it refuses to proceed by a status, broadcasts, waits for the
resolution, or has a target (43_transmit R200). -/
theorem execTxStart_ends {s : State} (h0 : s.held.op0 = true) (h1 : s.held.op1 = true) :
    ∃ t, execTxStart s = .next t := by
  rw [execTxStart, operand0_of_held h0, andThen_next, operand1_of_held h1, andThen_next]
  dsimp only
  split
  case isTrue => exact ⟨_, rfl⟩
  case isFalse =>
    split
    case isTrue => exact emitTemplate_ends ..
    case isFalse =>
      split
      case h_1 => exact ⟨_, rfl⟩
      case h_2 => exact emitTemplate_ends ..

/-- NET_INIT ends where no script is pending (44_event_loop R239). -/
theorem execNetInit_ends {s : State} (h : s.env.handoffs = []) : ∃ t, execNetInit s = .next t := by
  rw [execNetInit, handOff_of_none h, andThen_next, handOff_of_none (e := .tcpInit), andThen_next]
  · exact ⟨_, rfl⟩
  · exact h

/-- Neighbor-resolution maintenance ends where no script is pending, and leaves the answers as they are. -/
theorem arpMaintenance_ends (now : Word) {s : State} (h : s.env.handoffs = []) :
    ∃ a, arpMaintenance collaborate now s = .next a ∧ a.1.env = s.env := by
  unfold arpMaintenance
  split
  · rw [collaborate_of_none (s := logEvent .arpUpdate s) h]
    exact ⟨_, rfl, rfl⟩
  · exact ⟨_, rfl, rfl⟩

/-- Transport timeout processing ends where no script is pending. -/
theorem tcpMaintenance_ends (now : Word) {s : State} (h : s.env.handoffs = []) :
    ∃ a, tcpMaintenance collaborate now s = .next a := by
  unfold tcpMaintenance
  split
  · rw [collaborate_of_none (s := logEvent .tcpUpdate s) h]
    exact ⟨_, rfl⟩
  · exact ⟨_, rfl⟩

/-- TIMER_SVC ends after NET_INIT where no script is pending: the clock's answer takes no script, so that neither arm
finds one (44_event_loop R235). -/
theorem execTimerSvc_ends {s : State} (ht : s.held.timers = true) (h : s.env.handoffs = []) :
    ∃ t, execTimerSvc s = .next t := by
  obtain ⟨e, n, hc, he⟩ := callClock_state s
  have h1 : (callClock s).2.env.handoffs = [] := by rw [hc]; exact he.trans h
  obtain ⟨a, ha, hae⟩ := arpMaintenance_ends (callClock s).1 h1
  have h2 : a.1.env.handoffs = [] := by rw [hae, h1]
  obtain ⟨b, hb⟩ := tcpMaintenance_ends (callClock s).1 h2
  have hbody : timerBody collaborate s = .next ⟨b.1, a.2, b.2⟩ := by
    simp only [timerBody, readHeld_of_held ht, andThen_next, ha, hb]
  rw [execTimerSvc, timerService, hbody, andThen_next]
  exact ⟨_, rfl⟩

/-! ### No instruction without a meaning -/

/-- The piece of an operation is not refused for an instruction without a meaning. -/
structure Meaningful {α : Type} (o : Result α) : Prop where
  ne_notModelled : ∀ m : String, o ≠ .refused (.notModelled m)

@[simp] theorem meaningful_next {α : Type} (a : α) : Meaningful (.next a : Result α) := ⟨nofun⟩

@[simp] theorem meaningful_refused {α : Type} {r : Refusal} :
    Meaningful (.refused r : Result α) ↔ ∀ m, r ≠ .notModelled m :=
  ⟨fun h m e => h.ne_notModelled m (e ▸ rfl), fun h => ⟨fun m e => h m (Host.Outcome.refused.inj e)⟩⟩

/-- Sequencing raises no refusal of its own. -/
theorem meaningful_andThen {α β : Type} {o : Result α} {k : α → Result β} (ho : Meaningful o)
    (hk : ∀ a, Meaningful (k a)) : Meaningful (andThen o k) := by
  refine ⟨fun m h => ?_⟩
  rcases andThen_eq_refused.mp h with h | ⟨a, _, h⟩
  · exact ho.ne_notModelled m h
  · exact (hk a).ne_notModelled m h

theorem meaningful_ite {α : Type} {c : Prop} [Decidable c] {o p : Result α} (ho : Meaningful o) (hp : Meaningful p) :
    Meaningful (if c then o else p) := by
  split
  · exact ho
  · exact hp

/-- What ends is not refused. -/
theorem meaningful_of_ends {α : Type} {o : Result α} (h : ∃ a, o = .next a) : Meaningful o := by
  obtain ⟨a, rfl⟩ := h
  exact meaningful_next a

@[simp] theorem meaningful_raiseStatus (st : Status) (s : State) : Meaningful (raiseStatus st s) := meaningful_next _

@[simp] theorem meaningful_finishWith (v : Word) (s : State) : Meaningful (finishWith v s) := meaningful_next _

@[simp] theorem meaningful_readHeld {α : Type} (held : Bool) (reg : Nat) (v : α) :
    Meaningful (readHeld held reg v) := meaningful_ite (by simp) (by simp)

theorem meaningful_operand0 (s : State) : Meaningful (operand0 s) := meaningful_readHeld ..
theorem meaningful_operand1 (s : State) : Meaningful (operand1 s) := meaningful_readHeld ..
theorem meaningful_operand2 (s : State) : Meaningful (operand2 s) := meaningful_readHeld ..
theorem meaningful_operand3 (s : State) : Meaningful (operand3 s) := meaningful_readHeld ..

/-! The buffers and the link calls -/

theorem meaningful_rxRange (n : Nat) (m : Memory) : Meaningful (rxRange n m) := by
  unfold rxRange
  split
  · simp
  · exact meaningful_ite (by simp) (by simp)

theorem meaningful_txRange (o n : Nat) (m : Memory) : Meaningful (txRange o n m) :=
  meaningful_ite (by simp) (by simp)

theorem meaningful_insertBytes (bs : List Byte) (o : Nat) (s : State) : Meaningful (insertBytes bs o s) :=
  meaningful_ite (by simp) (by simp)

theorem meaningful_callReadBlock (n : Nat) (s : State) : Meaningful (callReadBlock n s) :=
  meaningful_andThen (meaningful_rxRange ..) fun _ => meaningful_next _

theorem meaningful_callDump (n : Nat) (s : State) : Meaningful (callDump n s) :=
  meaningful_andThen (meaningful_rxRange ..) fun _ => meaningful_next _

theorem meaningful_callRxChecksum (n : Nat) (seed : Half) (s : State) : Meaningful (callRxChecksum n seed s) :=
  meaningful_andThen (meaningful_rxRange ..) fun _ => meaningful_next _

theorem meaningful_callTxChecksum (o n : Nat) (seed : Half) (s : State) : Meaningful (callTxChecksum o n seed s) :=
  meaningful_andThen (meaningful_txRange ..) fun _ => meaningful_next _

theorem meaningful_callInsert (bs : List Byte) (o : Nat) (s : State) : Meaningful (callInsert bs o s) :=
  meaningful_andThen (meaningful_insertBytes ..) fun _ => meaningful_next _

/-! The operations that hand nothing over -/

theorem meaningful_execCsumRx (s : State) : Meaningful (execCsumRx s) :=
  meaningful_andThen (meaningful_operand0 s) fun _ =>
  meaningful_andThen (meaningful_operand1 s) fun _ =>
  meaningful_andThen (meaningful_callRxChecksum ..) fun _ => meaningful_finishWith ..

theorem meaningful_execCsumTx (s : State) : Meaningful (execCsumTx s) :=
  meaningful_andThen (meaningful_operand0 s) fun _ =>
  meaningful_andThen (meaningful_operand1 s) fun _ =>
  meaningful_andThen (meaningful_operand2 s) fun _ =>
  meaningful_andThen (meaningful_callTxChecksum ..) fun _ => meaningful_finishWith ..

theorem meaningful_execPhcsum (s : State) : Meaningful (execPhcsum s) :=
  meaningful_andThen (meaningful_operand0 s) fun _ =>
  meaningful_andThen (meaningful_operand1 s) fun _ =>
  meaningful_andThen (meaningful_operand2 s) fun _ =>
  meaningful_andThen (meaningful_operand3 s) fun _ => meaningful_finishWith ..

theorem meaningful_execSwap16 (s : State) : Meaningful (execSwap16 s) :=
  meaningful_andThen (meaningful_operand0 s) fun _ => meaningful_finishWith ..

theorem meaningful_execSwap32 (s : State) : Meaningful (execSwap32 s) :=
  meaningful_andThen (meaningful_operand0 s) fun _ => meaningful_finishWith ..

theorem meaningful_execClassify (s : State) : Meaningful (execClassify s) :=
  meaningful_andThen (meaningful_operand0 s) fun _ =>
  meaningful_andThen (meaningful_operand1 s) fun _ =>
  meaningful_andThen (meaningful_operand2 s) fun _ => meaningful_finishWith ..

theorem meaningful_execIsBcast (s : State) : Meaningful (execIsBcast s) :=
  meaningful_andThen (meaningful_operand0 s) fun _ =>
  meaningful_andThen (meaningful_operand1 s) fun _ => meaningful_finishWith ..

theorem meaningful_execSameSubnet (s : State) : Meaningful (execSameSubnet s) :=
  meaningful_andThen (meaningful_operand0 s) fun _ =>
  meaningful_andThen (meaningful_operand1 s) fun _ =>
  meaningful_andThen (meaningful_operand2 s) fun _ => meaningful_finishWith ..

/-- TX_START is refused for an operand without a value only. -/
theorem meaningful_execTxStart (s : State) : Meaningful (execTxStart s) := by
  cases h0 : s.held.op0
  case false => simp [execTxStart, operand0, readHeld_of_not_held h0]
  case true =>
    cases h1 : s.held.op1
    case false => simp [execTxStart, operand0_of_held h0, operand1, readHeld_of_not_held h1]
    case true => exact meaningful_of_ends (execTxStart_ends h0 h1)

theorem meaningful_execTxSend (s : State) : Meaningful (execTxSend s) :=
  meaningful_andThen (meaningful_operand0 s) fun _ =>
  meaningful_ite (by simp) <| meaningful_ite (by simp) <|
  meaningful_andThen (meaningful_callInsert ..) fun _ =>
  meaningful_andThen (meaningful_callTxChecksum ..) fun _ =>
  meaningful_andThen (meaningful_callInsert ..) fun _ => meaningful_raiseStatus ..

/-! What outside agents do -/

/-- A read answers, or is refused for the register. -/
theorem meaningful_readRegister (reg : Nat) (s : State) : Meaningful (readRegister reg s) := by
  unfold readRegister
  split <;> simp

/-- A write is taken, or is refused for the register or the value's width. -/
theorem meaningful_writeRegister (reg : Nat) (v : Word) (s : State) : Meaningful (writeRegister reg v s) := by
  unfold writeRegister
  split
  case h_9 => exact meaningful_ite (by simp) (by simp)
  all_goals simp

theorem meaningful_outsideLink (c : LinkCall) (s : State) : Meaningful (outsideLink c s) := by
  cases c with
  | nextPacketUpdate =>
    simp only [outsideLink]
    split
    · simp
    · simp
  | readBlock | dump | getReadPointer => exact meaningful_andThen (meaningful_rxRange ..) fun _ => meaningful_next _
  | insert => exact meaningful_insertBytes ..
  | packetReady | flush | writeStart | write8 | write16 | write32 | send => exact meaningful_next _

theorem meaningful_outsideInput (a : Input) (s : State) : Meaningful (outsideInput a s) := by
  cases a with
  | writeReg reg v => exact meaningful_writeRegister reg v s
  | readReg reg => exact meaningful_andThen (meaningful_readRegister reg s) fun _ => meaningful_next _
  | arrive f => exact meaningful_next _
  | link c => exact meaningful_outsideLink c s

/-! The timers, for collaborators that raise no such refusal -/

section Timers
variable {h : State → Result State} (hh : ∀ s, Meaningful (h s))
include hh

theorem meaningful_arpMaintenance (now : Word) (s : State) : Meaningful (arpMaintenance h now s) :=
  meaningful_ite (meaningful_andThen (hh _) fun _ => meaningful_next _) (meaningful_next _)

theorem meaningful_tcpMaintenance (now : Word) (s : State) : Meaningful (tcpMaintenance h now s) :=
  meaningful_ite (meaningful_andThen (hh _) fun _ => meaningful_next _) (meaningful_next _)

theorem meaningful_timerBody (s : State) : Meaningful (timerBody h s) :=
  meaningful_andThen (meaningful_readHeld ..) fun _ =>
  meaningful_andThen (meaningful_arpMaintenance hh ..) fun _ =>
  meaningful_andThen (meaningful_tcpMaintenance hh ..) fun _ => meaningful_next _

theorem meaningful_timerService (s : State) : Meaningful (timerService h s) :=
  meaningful_andThen (meaningful_timerBody hh s) fun _ => meaningful_finishWith ..

/-! The hand-offs -/

/-- A command inside a hand-off has its meaning, or is refused for being started there (93 U9). -/
theorem meaningful_nestedCommand (c : Byte) (s : State) : Meaningful (nestedCommand h c s) := by
  unfold nestedCommand
  cases decodeCmd c with
  | csumRx => exact meaningful_execCsumRx s
  | csumTx => exact meaningful_execCsumTx s
  | phcsum => exact meaningful_execPhcsum s
  | swap16 => exact meaningful_execSwap16 s
  | swap32 => exact meaningful_execSwap32 s
  | classify => exact meaningful_execClassify s
  | isBcast => exact meaningful_execIsBcast s
  | sameSubnet => exact meaningful_execSameSubnet s
  | txStart => exact meaningful_execTxStart s
  | txSend => exact meaningful_execTxSend s
  | timerSvc => exact meaningful_timerService hh s
  | nop | illegal10 | illegal20 | illegal40 | illegal80 => exact meaningful_next _
  | rxParse | frameDemux | netTick | netInit | etypeArp | etypeIpv4 | protoIcmp | protoTcp | ipv4Byte0Accepted =>
    simp

theorem meaningful_nestedInput (a : Input) (s : State) : Meaningful (nestedInput h a s) := by
  unfold nestedInput
  split
  · exact meaningful_nestedCommand hh ..
  · exact meaningful_ite (by simp) (meaningful_outsideInput ..)

theorem meaningful_runScript : ∀ (script : List Input) (s : State), Meaningful (runScript h script s)
  | [], _ => meaningful_next _
  | a :: rest, s => meaningful_andThen (meaningful_nestedInput hh a s) (meaningful_runScript rest)

end Timers

/-- The induction over the nesting of hand-offs: a script's actions, under deeper hand-offs that have a meaning. -/
theorem meaningful_runHandoff : ∀ (depth : Nat) (s : State), Meaningful (runHandoff depth s)
  | 0, _ => meaningful_next _
  | depth + 1, s => by
    unfold runHandoff
    split
    · exact meaningful_next _
    · exact meaningful_runScript (meaningful_runHandoff depth) ..

theorem meaningful_collaborate (s : State) : Meaningful (collaborate s) := meaningful_runHandoff ..

theorem meaningful_handOff (e : Event) (s : State) : Meaningful (handOff e s) := meaningful_collaborate _

/-! RX_PARSE -/

theorem meaningful_payloadLength (h : Header) : Meaningful (payloadLength h) := meaningful_ite (by simp) (by simp)

theorem meaningful_finishEnded (r : Ended) : Meaningful (finishEnded r) := meaningful_raiseStatus ..

theorem meaningful_icmpArm (n : Nat) (s : State) : Meaningful (icmpArm n s) :=
  meaningful_ite (meaningful_next _) <|
  meaningful_andThen (meaningful_callRxChecksum ..) fun _ =>
  meaningful_ite (meaningful_andThen (meaningful_handOff ..) fun _ => meaningful_next _) (meaningful_next _)

theorem meaningful_tcpArm (n : Nat) (s : State) : Meaningful (tcpArm n s) :=
  meaningful_andThen (meaningful_callRxChecksum ..) fun _ =>
  meaningful_ite (meaningful_andThen (meaningful_handOff ..) fun _ => meaningful_next _) (meaningful_next _)

theorem meaningful_discardArm (n : Nat) (s : State) : Meaningful (discardArm n s) :=
  meaningful_andThen (meaningful_callDump ..) fun _ => meaningful_next _

theorem meaningful_dispatchProtocol (s : State) : Meaningful (dispatchProtocol s) := by
  refine meaningful_andThen (meaningful_payloadLength _) fun n => ?_
  split
  · exact meaningful_icmpArm n s
  · exact meaningful_tcpArm n s
  · exact meaningful_discardArm n s

theorem meaningful_validateHeader (host : Word) (s : State) : Meaningful (validateHeader host s) :=
  meaningful_ite (meaningful_next _) <| meaningful_ite (meaningful_next _) <|
  meaningful_ite (meaningful_next _) <| meaningful_ite (meaningful_next _) <|
  meaningful_ite (meaningful_andThen (meaningful_callDump ..) fun _ => meaningful_next _) <|
  meaningful_dispatchProtocol s

theorem meaningful_rxParseBody (s : State) : Meaningful (rxParseBody s) := by
  have parse : Meaningful (parseHeader s) :=
    meaningful_andThen (meaningful_callRxChecksum ..) fun _ =>
    meaningful_ite (meaningful_next _) <|
    meaningful_andThen (meaningful_callReadBlock ..) fun _ => meaningful_validateHeader ..
  exact meaningful_andThen parse fun _ => meaningful_next _

theorem meaningful_execRxParse (s : State) : Meaningful (execRxParse s) :=
  meaningful_andThen (meaningful_rxParseBody s) meaningful_finishEnded

/-- A protocol arm by itself has the meaning that the arm has. -/
theorem meaningful_protocolArm {arm : Nat → State → Result Ended} (harm : ∀ n s, Meaningful (arm n s)) (s : State) :
    Meaningful (protocolArm arm s) :=
  meaningful_andThen (meaningful_readHeld ..) fun _ =>
  meaningful_andThen (meaningful_payloadLength _) fun _ =>
  meaningful_andThen (harm _ _) fun _ => meaningful_finishEnded _

/-! The event loop -/

theorem meaningful_arpArm (s : State) : Meaningful (arpArm s) :=
  meaningful_andThen (meaningful_handOff ..) fun _ => meaningful_next _

theorem meaningful_dispatchFrame (t : Half) (s : State) : Meaningful (dispatchFrame t s) := by
  unfold dispatchFrame
  split
  · exact meaningful_arpArm s
  · exact meaningful_rxParseBody s
  · exact meaningful_next _

theorem meaningful_frameDemuxBody (s : State) : Meaningful (frameDemuxBody s) := by
  unfold frameDemuxBody
  split
  · exact meaningful_next _
  · exact meaningful_andThen (meaningful_callReadBlock ..) fun _ =>
      meaningful_andThen (meaningful_dispatchFrame ..) fun _ => meaningful_next _

theorem meaningful_execFrameDemux (s : State) : Meaningful (execFrameDemux s) :=
  meaningful_andThen (meaningful_frameDemuxBody s) fun _ => meaningful_raiseStatus ..

theorem meaningful_execTimerSvc (s : State) : Meaningful (execTimerSvc s) :=
  meaningful_timerService meaningful_collaborate s

theorem meaningful_execNetTick (s : State) : Meaningful (execNetTick s) :=
  meaningful_andThen (meaningful_frameDemuxBody _) fun _ =>
  meaningful_andThen (meaningful_timerBody meaningful_collaborate _) fun _ => meaningful_raiseStatus ..

theorem meaningful_execNetInit (s : State) : Meaningful (execNetInit s) :=
  meaningful_andThen (meaningful_handOff ..) fun _ =>
  meaningful_andThen (meaningful_handOff ..) fun _ => meaningful_raiseStatus ..

theorem meaningful_execEtypeArp (s : State) : Meaningful (execEtypeArp s) :=
  meaningful_andThen (meaningful_arpArm s) meaningful_finishEnded

theorem meaningful_execEtypeIpv4 (s : State) : Meaningful (execEtypeIpv4 s) :=
  meaningful_andThen (meaningful_rxParseBody s) meaningful_finishEnded

/-! Every instruction and every step -/

/-- Every instruction has a meaning of its own. -/
theorem meaningful_exec (i : Instr) (s : State) : Meaningful (exec i s) := by
  cases i with
  | csumRx => exact meaningful_execCsumRx s
  | csumTx => exact meaningful_execCsumTx s
  | phcsum => exact meaningful_execPhcsum s
  | swap16 => exact meaningful_execSwap16 s
  | swap32 => exact meaningful_execSwap32 s
  | classify => exact meaningful_execClassify s
  | isBcast => exact meaningful_execIsBcast s
  | sameSubnet => exact meaningful_execSameSubnet s
  | rxParse => exact meaningful_execRxParse s
  | txStart => exact meaningful_execTxStart s
  | txSend => exact meaningful_execTxSend s
  | frameDemux => exact meaningful_execFrameDemux s
  | timerSvc => exact meaningful_execTimerSvc s
  | netTick => exact meaningful_execNetTick s
  | netInit => exact meaningful_execNetInit s
  | etypeArp => exact meaningful_execEtypeArp s
  | etypeIpv4 => exact meaningful_execEtypeIpv4 s
  | protoIcmp => exact meaningful_protocolArm meaningful_icmpArm s
  | protoTcp => exact meaningful_protocolArm meaningful_tcpArm s
  | nop | illegal10 | illegal20 | illegal40 | illegal80 | ipv4Byte0Accepted => exact meaningful_next _

/-- A step is idle, an instruction, or an outside agent's action. -/
theorem meaningful_step (s : State) : Meaningful (step s) := by
  unfold step
  split
  · exact meaningful_next _
  · split
    · exact meaningful_exec ..
    · exact meaningful_outsideInput ..

/-- Settles O10: an operation whose operands hold a value is an equation to its end, or ends in each of its branches; and
no piece of a step refuses for an instruction without a meaning. -/
theorem neverRefused : Obligations.NeverRefused := by
  refine ⟨?_, fun s => (meaningful_step s).ne_notModelled⟩
  rintro i s (rfl | ⟨c, rfl | rfl | rfl | rfl⟩ | ⟨h0, rfl | rfl⟩ | ⟨h0, h1, rfl | rfl⟩ | ⟨h0, h1, h2, rfl | rfl⟩ |
    ⟨h0, h1, h2, h3, rfl⟩ | ⟨hn, rfl | ⟨ht, rfl⟩⟩)
  · exact ⟨_, rfl⟩
  · exact ⟨_, rfl⟩
  · exact ⟨_, rfl⟩
  · exact ⟨_, rfl⟩
  · exact ⟨_, rfl⟩
  · exact ⟨_, execSwap16_of_held h0⟩
  · exact ⟨_, execSwap32_of_held h0⟩
  · exact ⟨_, execIsBcast_of_held h0 h1⟩
  · exact execTxStart_ends h0 h1
  · exact ⟨_, execClassify_of_held h0 h1 h2⟩
  · exact ⟨_, execSameSubnet_of_held h0 h1 h2⟩
  · exact ⟨_, execPhcsum_of_held h0 h1 h2 h3⟩
  · exact execNetInit_ends hn
  · exact execTimerSvc_ends ht hn

end Sys2Proof.Machine
end

section
/-! PROOFS. The configuration registers (10_state R21, 70_reset R320): a postcondition that sequencing composes, and, for
each operation, that it leaves CFG_ADDR, CFG_MASK and CFG_GW as they were. Inside a hand-off the induction over scripts
(Laws/Handoff.lean) carries the same fact through every nested operation. -/

namespace Sys2Proof.Machine

/-! ### Postconditions of a piece of an operation -/

/-- If the piece of an operation gives a result, the result satisfies `Q`. -/
structure Ensures {α : Type} (o : Result α) (Q : α → Prop) : Prop where
  of_next : ∀ a, o = .next a → Q a

@[simp] theorem ensures_next {α : Type} {a : α} {Q : α → Prop} : Ensures (.next a) Q ↔ Q a :=
  ⟨fun h => h.of_next a rfl, fun h => ⟨fun _ e => Host.Outcome.next.inj e ▸ h⟩⟩

/-- What is refused gives no result. -/
@[simp] theorem ensures_refused {α : Type} (r : Refusal) (Q : α → Prop) : Ensures (.refused r) Q := ⟨nofun⟩

/-- The rule of sequencing. -/
theorem ensures_andThen {α β : Type} {o : Result α} {k : α → Result β} {Q : α → Prop} {R : β → Prop}
    (ho : Ensures o Q) (hk : ∀ a, Q a → Ensures (k a) R) : Ensures (andThen o k) R := by
  refine ⟨fun b e => ?_⟩
  obtain ⟨a, ha, hb⟩ := andThen_eq_next.mp e
  exact (hk a (ho.of_next a ha)).of_next b hb

/-- Sequencing after a piece that changes no state: a register read, a range test. -/
theorem ensures_andThen_read {α β : Type} {o : Result α} {k : α → Result β} {R : β → Prop}
    (hk : ∀ a, Ensures (k a) R) : Ensures (andThen o k) R :=
  ensures_andThen (Q := fun _ => True) ⟨fun _ _ => trivial⟩ fun a _ => hk a

theorem ensures_ite {α : Type} {p : Prop} [Decidable p] {o q : Result α} {R : α → Prop}
    (ho : Ensures o R) (hq : Ensures q R) : Ensures (if p then o else q) R := by
  split
  · exact ho
  · exact hq

/-! ### The configuration of a state -/

/-- CFG_ADDR, CFG_MASK and CFG_GW (10_state R21). -/
def configOf (s : State) : Word × Word × Word := (s.cfgAddr, s.cfgMask, s.cfgGw)

theorem configOf_eq_iff {s t : State} :
    configOf t = configOf s ↔ t.cfgAddr = s.cfgAddr ∧ t.cfgMask = s.cfgMask ∧ t.cfgGw = s.cfgGw := by
  simp [configOf]

theorem configOf_closeHeader (s : State) : configOf (closeHeader s) = configOf s := by simp [configOf]

theorem configOf_callClock (s : State) : configOf (callClock s).2 = configOf s := by
  obtain ⟨e, n, h, -⟩ := callClock_state s
  rw [h]; rfl

theorem configOf_callLookup (a : Word) (s : State) : configOf (callLookup a s).2 = configOf s := by
  obtain ⟨e, n, h, -⟩ := callLookup_state a s
  rw [h]; rfl

theorem configOf_callRequest (a : Word) (s : State) : configOf (callRequest a s).2 = configOf s := by
  obtain ⟨e, n, h, -⟩ := callRequest_state a s
  rw [h]; rfl

theorem configOf_callWriteStart (target : LinkAddr) (ty : Half) (s : State) :
    configOf (callWriteStart target ty s).2 = configOf s := by
  obtain ⟨e, n, buf, h, -⟩ := callWriteStart_state target ty s
  rw [h]; rfl

theorem configOf_callSend (s : State) : configOf (callSend s).2 = configOf s := by
  obtain ⟨e, n, buf, h, -⟩ := callSend_state s
  rw [h]; rfl

theorem configOf_callEventHandler (s : State) : configOf (callEventHandler s) = configOf s := by
  obtain ⟨e, fs, h, -⟩ := callEventHandler_state s
  rw [h]; rfl

theorem configOf_callWrite8 (v : Byte) (s : State) : configOf (callWrite8 v s) = configOf s := rfl
theorem configOf_callWrite16 (v : Half) (s : State) : configOf (callWrite16 v s) = configOf s := rfl
theorem configOf_callWrite32 (v : Word) (s : State) : configOf (callWrite32 v s) = configOf s := rfl

/-- The ten writes of the template go to TX space and the trace. -/
theorem configOf_writeTemplate (host dest : Word) (protocol : Byte) (s : State) :
    configOf (writeTemplate host dest protocol s) = configOf s := by
  simp only [writeTemplate, configOf_callWrite8, configOf_callWrite16, configOf_callWrite32]

/-- What TX_START records on success are the TX_* registers (43_transmit R206). -/
theorem configOf_recordTx (host dest : Word) (protocol : Byte) (s : State) :
    configOf (setTxActive true (recordTx host dest protocol (releaseLinkTarget s))) = configOf s := rfl

/-! ### The link calls that may be refused -/

variable {c : Word × Word × Word} {s : State}

theorem callReadBlock_keeps_config {n : Nat} (hs : configOf s = c) :
    Ensures (callReadBlock n s) fun r => configOf r.2 = c := by
  refine ⟨fun r e => ?_⟩
  obtain ⟨f, -, -, rfl⟩ := callReadBlock_eq_next.mp e
  exact hs

theorem callDump_keeps_config {n : Nat} (hs : configOf s = c) :
    Ensures (callDump n s) fun t => configOf t = c := by
  refine ⟨fun t e => ?_⟩
  obtain ⟨f, -, -, rfl⟩ := callDump_eq_next.mp e
  exact hs

theorem callRxChecksum_keeps_config {n : Nat} {seed : Half} (hs : configOf s = c) :
    Ensures (callRxChecksum n seed s) fun r => configOf r.2 = c := by
  refine ⟨fun r e => ?_⟩
  obtain ⟨f, -, -, rfl⟩ := callRxChecksum_eq_next.mp e
  exact hs

theorem callTxChecksum_keeps_config {o n : Nat} {seed : Half} (hs : configOf s = c) :
    Ensures (callTxChecksum o n seed s) fun r => configOf r.2 = c := by
  refine ⟨fun r e => ?_⟩
  obtain ⟨-, rfl⟩ := callTxChecksum_eq_next.mp e
  exact hs

theorem callInsert_keeps_config {bs : List Byte} {o : Nat} (hs : configOf s = c) :
    Ensures (callInsert bs o s) fun t => configOf t = c := by
  refine ⟨fun t e => ?_⟩
  obtain ⟨-, rfl⟩ := callInsert_eq_next.mp e
  exact hs

/-! ### The operations that hand nothing over -/

/-- An operation with a result writes RES0 and STATUS. -/
theorem finishWith_keeps_config {v : Word} (hs : configOf s = c) :
    Ensures (finishWith v s) fun t => configOf t = c := ensures_next.mpr hs

theorem raiseStatus_keeps_config {st : Status} (hs : configOf s = c) :
    Ensures (raiseStatus st s) fun t => configOf t = c := ensures_next.mpr hs

theorem execCsumRx_keeps_config (hs : configOf s = c) : Ensures (execCsumRx s) fun t => configOf t = c :=
  ensures_andThen_read fun _ => ensures_andThen_read fun _ =>
  ensures_andThen (callRxChecksum_keeps_config hs) fun _ => finishWith_keeps_config

theorem execCsumTx_keeps_config (hs : configOf s = c) : Ensures (execCsumTx s) fun t => configOf t = c :=
  ensures_andThen_read fun _ => ensures_andThen_read fun _ => ensures_andThen_read fun _ =>
  ensures_andThen (callTxChecksum_keeps_config hs) fun _ => finishWith_keeps_config

theorem execPhcsum_keeps_config (hs : configOf s = c) : Ensures (execPhcsum s) fun t => configOf t = c :=
  ensures_andThen_read fun _ => ensures_andThen_read fun _ => ensures_andThen_read fun _ =>
  ensures_andThen_read fun _ => finishWith_keeps_config hs

theorem execSwap16_keeps_config (hs : configOf s = c) : Ensures (execSwap16 s) fun t => configOf t = c :=
  ensures_andThen_read fun _ => finishWith_keeps_config hs

theorem execSwap32_keeps_config (hs : configOf s = c) : Ensures (execSwap32 s) fun t => configOf t = c :=
  ensures_andThen_read fun _ => finishWith_keeps_config hs

theorem execClassify_keeps_config (hs : configOf s = c) : Ensures (execClassify s) fun t => configOf t = c :=
  ensures_andThen_read fun _ => ensures_andThen_read fun _ => ensures_andThen_read fun _ => finishWith_keeps_config hs

theorem execIsBcast_keeps_config (hs : configOf s = c) : Ensures (execIsBcast s) fun t => configOf t = c :=
  ensures_andThen_read fun _ => ensures_andThen_read fun _ => finishWith_keeps_config hs

theorem execSameSubnet_keeps_config (hs : configOf s = c) : Ensures (execSameSubnet s) fun t => configOf t = c :=
  ensures_andThen_read fun _ => ensures_andThen_read fun _ => ensures_andThen_read fun _ => finishWith_keeps_config hs

/-- From the link target on TX_START writes TX space and the TX_* registers (43_transmit R205, R206). -/
theorem emitTemplate_keeps_config {target : LinkAddr} {host dest : Word} {protocol : Byte} (hs : configOf s = c) :
    Ensures (emitTemplate target host dest protocol s) fun t => configOf t = c := by
  have hw := (configOf_callWriteStart target Config.ethertypeIpv4 (setLinkTarget target s)).trans hs
  have ht := (configOf_writeTemplate host dest protocol _).trans hw
  exact ensures_ite
    (raiseStatus_keeps_config ((configOf_recordTx host dest protocol _).trans ht))
    (raiseStatus_keeps_config hw)

/-- TX_START reads all three configuration registers and writes none (43_transmit R200). -/
theorem execTxStart_keeps_config (hs : configOf s = c) : Ensures (execTxStart s) fun t => configOf t = c := by
  refine ensures_andThen_read fun dest => ensures_andThen_read fun p => ?_
  refine ensures_ite (raiseStatus_keeps_config hs) (ensures_ite (emitTemplate_keeps_config hs) ?_)
  have hl := (configOf_callLookup (nextHop dest s.cfgAddr s.cfgMask s.cfgGw) (setTxActive false s)).trans hs
  dsimp only
  split
  · exact raiseStatus_keeps_config ((configOf_callRequest ..).trans hl)
  · exact emitTemplate_keeps_config hl

theorem execTxSend_keeps_config (hs : configOf s = c) : Ensures (execTxSend s) fun t => configOf t = c :=
  ensures_andThen_read fun _ =>
  ensures_ite (ensures_refused ..) <| ensures_ite (ensures_refused ..) <|
  ensures_andThen (callInsert_keeps_config hs) fun _ h1 =>
  ensures_andThen (callTxChecksum_keeps_config h1) fun _ h2 =>
  ensures_andThen (callInsert_keeps_config h2) fun _ h3 =>
  raiseStatus_keeps_config ((configOf_callSend _).trans h3)

/-! ### Outside agents and hand-offs -/

/-- A register write above CFG_GW changes no configuration register. -/
theorem writeRegister_keeps_config {reg : Nat} {v : Word} (hreg : 2 < reg) (hs : configOf s = c) :
    Ensures (writeRegister reg v s) fun t => configOf t = c := by
  unfold writeRegister
  split
  case h_1 | h_2 | h_3 => omega
  case h_4 => exact ensures_refused ..
  case h_5 | h_6 | h_7 | h_8 => exact ensures_next.mpr hs
  case h_9 => exact ensures_ite (ensures_refused ..) (ensures_refused ..)

/-- A link-layer call works on the two buffers and the answers. -/
theorem outsideLink_keeps_config {a : LinkCall} (hs : configOf s = c) :
    Ensures (outsideLink a s) fun t => configOf t = c := by
  cases a with
  | packetReady | flush | write8 | write16 | write32 => exact ensures_next.mpr hs
  | nextPacketUpdate =>
    simp only [outsideLink]
    split
    · exact ensures_refused ..
    · exact ensures_next.mpr hs
  | readBlock | dump | getReadPointer => exact ensures_andThen_read fun _ => ensures_next.mpr hs
  | writeStart target ty => exact ensures_next.mpr ((configOf_callWriteStart target ty s).trans hs)
  | insert => exact ensures_ite (ensures_next.mpr hs) (ensures_refused ..)
  | send => exact ensures_next.mpr ((configOf_callSend s).trans hs)

/-- Of an outside agent's actions only a configuration write changes the configuration. -/
theorem outsideInput_keeps_config {a : Input} (ha : isConfigWrite a = false) (hs : configOf s = c) :
    Ensures (outsideInput a s) fun t => configOf t = c := by
  cases a with
  | writeReg reg v => exact writeRegister_keeps_config (by simpa [isConfigWrite] using ha) hs
  | readReg => exact ensures_andThen_read fun _ => ensures_next.mpr hs
  | arrive => exact ensures_next.mpr hs
  | link => exact outsideLink_keeps_config hs

section Timers
variable {h : State → Result State} (hh : ∀ u, configOf u = c → Ensures (h u) fun v => configOf v = c)
include hh

theorem arpMaintenance_keeps_config {now : Word} (hs : configOf s = c) :
    Ensures (arpMaintenance h now s) fun r => configOf r.1 = c :=
  ensures_ite (ensures_andThen (hh _ hs) fun _ ht => ensures_next.mpr ht) (ensures_next.mpr hs)

theorem tcpMaintenance_keeps_config {now : Word} (hs : configOf s = c) :
    Ensures (tcpMaintenance h now s) fun r => configOf r.1 = c :=
  ensures_ite (ensures_andThen (hh _ hs) fun _ ht => ensures_next.mpr ht) (ensures_next.mpr hs)

theorem timerBody_keeps_config (hs : configOf s = c) : Ensures (timerBody h s) fun r => configOf r.state = c :=
  ensures_andThen_read fun _ =>
  ensures_andThen (arpMaintenance_keeps_config hh ((configOf_callClock s).trans hs)) fun _ ha =>
  ensures_andThen (tcpMaintenance_keeps_config hh ha) fun _ ht => ensures_next.mpr ht

theorem timerService_keeps_config (hs : configOf s = c) : Ensures (timerService h s) fun t => configOf t = c :=
  ensures_andThen (timerBody_keeps_config hh hs) fun _ => finishWith_keeps_config

/-- An operation started inside a hand-off. -/
theorem nestedCommand_keeps_config {code : Byte} (hs : configOf s = c) :
    Ensures (nestedCommand h code s) fun t => configOf t = c := by
  unfold nestedCommand
  cases decodeCmd code with
  | csumRx => exact execCsumRx_keeps_config hs
  | csumTx => exact execCsumTx_keeps_config hs
  | phcsum => exact execPhcsum_keeps_config hs
  | swap16 => exact execSwap16_keeps_config hs
  | swap32 => exact execSwap32_keeps_config hs
  | classify => exact execClassify_keeps_config hs
  | isBcast => exact execIsBcast_keeps_config hs
  | sameSubnet => exact execSameSubnet_keeps_config hs
  | txStart => exact execTxStart_keeps_config hs
  | txSend => exact execTxSend_keeps_config hs
  | timerSvc => exact timerService_keeps_config hh hs
  | nop | illegal10 | illegal20 | illegal40 | illegal80 => exact ensures_next.mpr hs
  | rxParse | frameDemux | netTick | netInit | etypeArp | etypeIpv4 | protoIcmp | protoTcp | ipv4Byte0Accepted =>
    exact ensures_refused ..

/-- One action inside a hand-off: a configuration write is refused there (93 U17). -/
theorem nestedInput_keeps_config {a : Input} (hs : configOf s = c) :
    Ensures (nestedInput h a s) fun t => configOf t = c := by
  unfold nestedInput
  split
  · exact nestedCommand_keeps_config hh hs
  · split
    case isTrue => exact ensures_refused ..
    case isFalse ha => exact outsideInput_keeps_config (by simpa using ha) hs

end Timers

/-- Whatever a collaborator does, at any depth of nesting, it leaves the configuration. -/
theorem collaborate_keeps_config (hs : configOf s = c) : Ensures (collaborate s) fun t => configOf t = c :=
  ⟨fun _ => collaborate_keeps (P := fun u => configOf u = c) (fun _ _ hu => hu)
    (fun _ _ _ _ hh hu => (nestedInput_keeps_config (fun u hu => ⟨fun v => hh u v hu⟩) hu).of_next _) hs⟩

theorem handOff_keeps_config {e : Event} (hs : configOf s = c) : Ensures (handOff e s) fun t => configOf t = c :=
  collaborate_keeps_config (s := logEvent e s) hs

/-! ### The receive pipeline and the event loop -/

theorem icmpArm_keeps_config {n : Nat} (hs : configOf s = c) : Ensures (icmpArm n s) fun r => configOf r.1 = c :=
  ensures_ite (ensures_next.mpr hs) <|
  ensures_andThen (callRxChecksum_keeps_config hs) fun _ hc =>
  ensures_ite (ensures_andThen (handOff_keeps_config hc) fun _ ht => ensures_next.mpr ht) (ensures_next.mpr hc)

theorem tcpArm_keeps_config {n : Nat} (hs : configOf s = c) : Ensures (tcpArm n s) fun r => configOf r.1 = c :=
  ensures_andThen (callRxChecksum_keeps_config (s := setAcc _ s) hs) fun _ hc =>
  ensures_ite (ensures_andThen (handOff_keeps_config hc) fun _ ht => ensures_next.mpr ht) (ensures_next.mpr hc)

theorem discardArm_keeps_config {n : Nat} (hs : configOf s = c) :
    Ensures (discardArm n s) fun r => configOf r.1 = c :=
  ensures_andThen (callDump_keeps_config hs) fun _ ht => ensures_next.mpr ht

theorem dispatchProtocol_keeps_config (hs : configOf s = c) :
    Ensures (dispatchProtocol s) fun r => configOf r.1 = c := by
  refine ensures_andThen_read fun n => ?_
  split
  · exact icmpArm_keeps_config hs
  · exact tcpArm_keeps_config hs
  · exact discardArm_keeps_config hs

theorem validateHeader_keeps_config {host : Word} (hs : configOf s = c) :
    Ensures (validateHeader host s) fun r => configOf r.1 = c :=
  ensures_ite (ensures_next.mpr hs) <| ensures_ite (ensures_next.mpr hs) <|
  ensures_ite (ensures_next.mpr hs) <| ensures_ite (ensures_next.mpr hs) <|
  ensures_ite (ensures_andThen (callDump_keeps_config hs) fun _ ht => ensures_next.mpr ht) <|
  dispatchProtocol_keeps_config hs

theorem rxParseBody_keeps_config (hs : configOf s = c) : Ensures (rxParseBody s) fun r => configOf r.1 = c := by
  have parse : Ensures (parseHeader s) fun r => configOf r.1 = c :=
    ensures_andThen (callRxChecksum_keeps_config hs) fun _ hc =>
    ensures_ite (ensures_next.mpr hc) <|
    ensures_andThen (callReadBlock_keeps_config hc) fun _ hb => validateHeader_keeps_config hb
  exact ensures_andThen parse fun _ hr => ensures_next.mpr ((configOf_closeHeader _).trans hr)

/-- The end of an operation with a returned status writes STATUS. -/
theorem finishEnded_keeps_config {r : Ended} (hr : configOf r.1 = c) :
    Ensures (finishEnded r) fun t => configOf t = c := raiseStatus_keeps_config hr

theorem execRxParse_keeps_config (hs : configOf s = c) : Ensures (execRxParse s) fun t => configOf t = c :=
  ensures_andThen (rxParseBody_keeps_config hs) fun _ => finishEnded_keeps_config

/-- A protocol arm by itself leaves the configuration where the arm does. -/
theorem protocolArm_keeps_config {arm : Nat → State → Result Ended}
    (harm : ∀ n, Ensures (arm n s) fun r => configOf r.1 = c) : Ensures (protocolArm arm s) fun t => configOf t = c :=
  ensures_andThen_read fun _ => ensures_andThen_read fun n =>
  ensures_andThen (harm n) fun _ hr => finishEnded_keeps_config ((configOf_closeHeader _).trans hr)

theorem arpArm_keeps_config (hs : configOf s = c) : Ensures (arpArm s) fun r => configOf r.1 = c :=
  ensures_andThen (handOff_keeps_config hs) fun _ ht => ensures_next.mpr ht

theorem dispatchFrame_keeps_config {ty : Half} (hs : configOf s = c) :
    Ensures (dispatchFrame ty s) fun r => configOf r.1 = c := by
  unfold dispatchFrame
  split
  · exact arpArm_keeps_config hs
  · exact rxParseBody_keeps_config hs
  · exact ensures_next.mpr hs

theorem frameDemuxBody_keeps_config (hs : configOf s = c) :
    Ensures (frameDemuxBody s) fun f => configOf f.state = c := by
  unfold frameDemuxBody
  split
  · exact ensures_next.mpr hs
  · exact ensures_andThen (callReadBlock_keeps_config hs) fun _ hl =>
      ensures_andThen (dispatchFrame_keeps_config hl) fun _ hr => ensures_next.mpr hr

theorem execFrameDemux_keeps_config (hs : configOf s = c) : Ensures (execFrameDemux s) fun t => configOf t = c :=
  ensures_andThen (frameDemuxBody_keeps_config hs) fun _ hf => raiseStatus_keeps_config hf

theorem execTimerSvc_keeps_config (hs : configOf s = c) : Ensures (execTimerSvc s) fun t => configOf t = c :=
  timerService_keeps_config (fun _ => collaborate_keeps_config) hs

theorem execNetTick_keeps_config (hs : configOf s = c) : Ensures (execNetTick s) fun t => configOf t = c :=
  ensures_andThen (frameDemuxBody_keeps_config ((configOf_callEventHandler s).trans hs)) fun _ hf =>
  ensures_andThen (timerBody_keeps_config (fun _ => collaborate_keeps_config) hf) fun _ ht => raiseStatus_keeps_config ht

theorem execNetInit_keeps_config (hs : configOf s = c) : Ensures (execNetInit s) fun t => configOf t = c :=
  ensures_andThen (handOff_keeps_config hs) fun _ h1 =>
  ensures_andThen (handOff_keeps_config h1) fun s2 h2 =>
  have hclock : configOf (loadTimers (callClock s2).1 (callClock s2).2) = c := (configOf_callClock s2).trans h2
  raiseStatus_keeps_config ((configOf_closeHeader _).trans hclock)

/-! ### Every instruction -/

/-- No operation, with whatever its collaborators do, changes the configuration. -/
theorem exec_keeps_config (i : Instr) (hs : configOf s = c) : Ensures (exec i s) fun t => configOf t = c := by
  cases i with
  | csumRx => exact execCsumRx_keeps_config hs
  | csumTx => exact execCsumTx_keeps_config hs
  | phcsum => exact execPhcsum_keeps_config hs
  | swap16 => exact execSwap16_keeps_config hs
  | swap32 => exact execSwap32_keeps_config hs
  | classify => exact execClassify_keeps_config hs
  | isBcast => exact execIsBcast_keeps_config hs
  | sameSubnet => exact execSameSubnet_keeps_config hs
  | rxParse => exact execRxParse_keeps_config hs
  | txStart => exact execTxStart_keeps_config hs
  | txSend => exact execTxSend_keeps_config hs
  | frameDemux => exact execFrameDemux_keeps_config hs
  | timerSvc => exact execTimerSvc_keeps_config hs
  | netTick => exact execNetTick_keeps_config hs
  | netInit => exact execNetInit_keeps_config hs
  | etypeArp => exact ensures_andThen (arpArm_keeps_config hs) fun _ => finishEnded_keeps_config
  | etypeIpv4 => exact ensures_andThen (rxParseBody_keeps_config hs) fun _ => finishEnded_keeps_config
  | protoIcmp => exact protocolArm_keeps_config fun _ => icmpArm_keeps_config hs
  | protoTcp => exact protocolArm_keeps_config fun _ => tcpArm_keeps_config hs
  | nop | illegal10 | illegal20 | illegal40 | illegal80 | ipv4Byte0Accepted => exact ensures_next.mpr hs

/-- Settles O11: every operation keeps `configOf`, hand-offs by the induction over their scripts. -/
theorem operationsKeepConfiguration : Obligations.OperationsKeepConfiguration :=
  fun i _ _ h => configOf_eq_iff.mp ((exec_keeps_config i rfl).of_next _ h)

end Sys2Proof.Machine
end

section
/-! PROOFS. What outside agents see of the registers (10_state R20 to R35): the reads and the writes by register number,
what reset leaves, that RX_PARSE closes the header, what a step does with each action, and that an operation whose operand
register holds no value is refused. -/

namespace Sys2Proof.Machine

open Sys2Proof.Claims

/-! ### Register numbers (10_state R20) -/

/-- The registers that only the block writes are the existing ones above OP3. -/
theorem blockOwned_iff {n : Nat} : blockOwned n = true ↔ existingRegister n ∧ ¬ outsideRegister n := by
  simp only [blockOwned, existingRegister, outsideRegister, Bool.or_eq_true, Bool.and_eq_true, decide_eq_true_eq,
    beq_iff_eq]
  omega

/-- Above OP3 every write is refused, with the reason. -/
theorem writeRegister_of_not_outside {n : Nat} (h : ¬ outsideRegister n) (v : Word) (s : State) :
    writeRegister n v s =
      if blockOwned n then .refused (.blockOwnedRegister n) else .refused (.noSuchRegister n) := by
  unfold writeRegister
  split
  case h_9 => rfl
  all_goals exact absurd (by unfold outsideRegister; decide) h

/-- A number that names no register is not read. -/
theorem readRegister_of_not_existing {n : Nat} (h : ¬ existingRegister n) (s : State) :
    readRegister n s = .refused (.noSuchRegister n) := by
  unfold readRegister
  split
  case h_32 => rfl
  all_goals exact absurd (by unfold existingRegister; decide) h

/-- While HDR_VALID is 0 no HDR_* register is read (10_state R25). -/
theorem readRegister_of_header_closed {n : Nat} {s : State} (hv : s.hdrValid = false) (h1 : 16 ≤ n) (h2 : n ≤ 26) :
    readRegister n s = .refused (.registerHoldsNoValue n) := by
  interval_cases n
  all_goals exact readHeld_of_not_held hv _ _

/-! ### Writes by outside agents -/

section Writes
variable {n : Nat} {v : Word} {s t : State}

/-- CFG_ADDR to OP3, CMD apart, are written without refusal. -/
theorem writeRegister_ends (h : outsideRegister n) (h3 : n ≠ 3) (v : Word) (s : State) :
    ∃ t, writeRegister n v s = .next t := by
  unfold outsideRegister at h
  have hn : n = 0 ∨ n = 1 ∨ n = 2 ∨ n = 4 ∨ n = 5 ∨ n = 6 ∨ n = 7 := by omega
  rcases hn with rfl | rfl | rfl | rfl | rfl | rfl | rfl
  all_goals exact ⟨_, rfl⟩

/-- What a write that is not refused can be: of one of the seven registers, the operands holding a value from then on. -/
theorem writeRegister_eq_next (h : writeRegister n v s = .next t) :
    (n = 0 ∧ t = { s with cfgAddr := v }) ∨ (n = 1 ∧ t = { s with cfgMask := v }) ∨
    (n = 2 ∧ t = { s with cfgGw := v }) ∨
    (n = 4 ∧ t = { s with op0 := v, held := { s.held with op0 := true } }) ∨
    (n = 5 ∧ t = { s with op1 := v, held := { s.held with op1 := true } }) ∨
    (n = 6 ∧ t = { s with op2 := v, held := { s.held with op2 := true } }) ∨
    (n = 7 ∧ t = { s with op3 := v, held := { s.held with op3 := true } }) := by
  unfold writeRegister at h
  split at h
  case h_4 => cases h
  case h_9 => split at h <;> cases h
  all_goals cases h; simp

/-- The register that was written answers the value. -/
theorem readRegister_of_written (h : writeRegister n v s = .next t) : readRegister n t = .next (v.setWidth 48) := by
  obtain ⟨rfl, rfl⟩ | ⟨rfl, rfl⟩ | ⟨rfl, rfl⟩ | ⟨rfl, rfl⟩ | ⟨rfl, rfl⟩ | ⟨rfl, rfl⟩ | ⟨rfl, rfl⟩ :=
    writeRegister_eq_next h
  all_goals rfl

/-- Every other register answers what it answered before: of the rows of `readRegister` only that of the register that was
written reads what the write changed. -/
theorem readRegister_of_other_written (h : writeRegister n v s = .next t) {m : Nat} (hm : m ≠ n) :
    readRegister m t = readRegister m s := by
  obtain ⟨rfl, rfl⟩ | ⟨rfl, rfl⟩ | ⟨rfl, rfl⟩ | ⟨rfl, rfl⟩ | ⟨rfl, rfl⟩ | ⟨rfl, rfl⟩ | ⟨rfl, rfl⟩ :=
    writeRegister_eq_next h
  all_goals
    unfold readRegister
    split
    all_goals first | rfl | exact absurd rfl hm

/-- Nothing changes but the registers that outside agents write, and which operands hold a value. -/
theorem writeRegister_frame (h : writeRegister n v s = .next t) :
    { t with
      cfgAddr := s.cfgAddr, cfgMask := s.cfgMask, cfgGw := s.cfgGw, op0 := s.op0, op1 := s.op1, op2 := s.op2,
      op3 := s.op3, held := s.held } = s := by
  obtain ⟨rfl, rfl⟩ | ⟨rfl, rfl⟩ | ⟨rfl, rfl⟩ | ⟨rfl, rfl⟩ | ⟨rfl, rfl⟩ | ⟨rfl, rfl⟩ | ⟨rfl, rfl⟩ :=
    writeRegister_eq_next h
  all_goals rfl

end Writes

/-- Settles O58: the writes by the number of the register, and each register's read as `readRegister` defines it. -/
theorem outsideAccessByRegister : Obligations.OutsideAccessByRegister := by
  refine ⟨fun n v s => ⟨fun hn => ?_, fun hn ho => ?_, fun ho h3 => ?_⟩, fun s => ?_⟩
  · have ho : ¬ outsideRegister n := fun ho => hn (.inl (Nat.le_trans ho (by decide)))
    refine ⟨?_, readRegister_of_not_existing hn s⟩
    rw [writeRegister_of_not_outside ho, if_neg fun hb => hn (blockOwned_iff.mp hb).1]
  · rw [writeRegister_of_not_outside ho, if_pos (blockOwned_iff.mpr ⟨hn, ho⟩)]
  · obtain ⟨t, ht⟩ := writeRegister_ends ho h3 v s
    exact ⟨t, ht, readRegister_of_written ht, fun m hm => readRegister_of_other_written ht hm, writeRegister_frame ht⟩
  · exact ⟨⟨rfl, rfl, rfl, rfl⟩, ⟨rfl, rfl, rfl, rfl, rfl, rfl⟩,
      ⟨rfl, rfl, rfl, rfl, rfl, rfl, rfl, rfl, rfl, rfl, rfl, rfl⟩, ⟨rfl, rfl, rfl, rfl, rfl, rfl⟩, ⟨rfl, rfl, rfl⟩⟩

/-! ### The header after a receive -/

/-- RX_PARSE, and the IPv4 frame type by itself, end with HDR_VALID = 0 (10_state R25): both are the RX_PARSE body. -/
theorem hdrValid_of_receives {i : Instr} {s t : State} (hi : receives i) (h : exec i s = .next t) :
    t.hdrValid = false := by
  have hbody : andThen (rxParseBody s) finishEnded = .next t := by
    rcases hi with rfl | rfl
    · exact h
    · exact h
  obtain ⟨r, hr, ht⟩ := andThen_eq_next.mp hbody
  obtain ⟨q, -, rfl⟩ := rxParseBody_eq_next.mp hr
  rw [raiseStatus_eq_next.mp ht, setStatus_hdrValid, closeHeader_hdrValid]

/-- Settles O39: HDR_VALID is 0, so that no HDR_* register is read. -/
theorem headerUnreadableAfterReceive : Obligations.HeaderUnreadableAfterReceive :=
  fun _ _ _ _ hi h => readRegister_of_header_closed (hdrValid_of_receives hi h)

/-! ### What a step does with each action -/

/-- With no action pending a step changes nothing (60_exceptions R305). -/
theorem step_of_idle {s : State} (h : s.inputs = []) : step s = .next s := by rw [step, h]

/-- A write of CMD runs the operation (10_state R22). -/
theorem step_of_command {s : State} {a : Input} {rest : List Input} {c : Byte} (h : s.inputs = a :: rest)
    (hc : commandOf a = some c) : step s = exec (decodeCmd c) (setCmd c (setInputs rest s)) := by
  simp only [step, h, hc]

/-- Any other action is the access itself. -/
theorem step_of_access {s : State} {a : Input} {rest : List Input} (h : s.inputs = a :: rest)
    (hc : commandOf a = none) : step s = outsideInput a (setInputs rest s) := by
  simp only [step, h, hc]

/-- A byte written to CMD is the command (10_state R20, R22). -/
theorem commandOf_byte {v : Word} (h : v.toNat < 256) : commandOf (.writeReg 3 v) = some (v.extractLsb' 0 8) := by
  rw [commandOf, if_pos h, BitVec.setWidth_eq_extractLsb' (by decide)]

/-- A wider value is no command (log 21). -/
theorem commandOf_wide {v : Word} (h : 256 ≤ v.toNat) : commandOf (.writeReg 3 v) = none := by
  rw [commandOf, if_neg (Nat.not_lt.mpr h)]

/-- A write of another register is no command. -/
theorem commandOf_other_register {n : Nat} (h : n ≠ 3) (v : Word) : commandOf (.writeReg n v) = none := by
  unfold commandOf
  split
  case h_1 heq => exact absurd (Input.writeReg.inj heq).1 h
  case h_2 => rfl

/-! Accesses neither read nor write the agents' pending actions. -/

/-- The result of an access, with the agents' pending actions replaced. -/
def withInputs (rest : List Input) (o : Result State) : Result State := andThen o fun t => .next (setInputs rest t)

@[simp] theorem withInputs_next (rest : List Input) (t : State) :
    withInputs rest (.next t) = .next { t with inputs := rest } := rfl

@[simp] theorem withInputs_refused (rest : List Input) (r : Refusal) :
    withInputs rest (.refused r) = .refused r := rfl

theorem readRegister_setInputs (n : Nat) (rest : List Input) (s : State) :
    readRegister n (setInputs rest s) = readRegister n s := rfl

theorem writeRegister_setInputs (n : Nat) (v : Word) (rest : List Input) (s : State) :
    writeRegister n v (setInputs rest s) = withInputs rest (writeRegister n v s) := by
  unfold writeRegister
  split
  case h_9 => split <;> rfl
  all_goals rfl

theorem drawWriteStart_setInputs (rest : List Input) (s : State) :
    drawWriteStart (setInputs rest s) = ((drawWriteStart s).1, setInputs rest (drawWriteStart s).2) := by
  unfold drawWriteStart
  rw [setInputs_env]
  split
  · rfl
  · rfl

theorem drawSend_setInputs (rest : List Input) (s : State) :
    drawSend (setInputs rest s) = ((drawSend s).1, setInputs rest (drawSend s).2) := by
  unfold drawSend
  rw [setInputs_env]
  split
  · rfl
  · rfl

theorem writeStart_setInputs (target : LinkAddr) (ty : Half) (rest : List Input) (s : State) :
    writeStart target ty (setInputs rest s) =
      ((writeStart target ty s).1, setInputs rest (writeStart target ty s).2) := by
  unfold writeStart
  simp only [drawWriteStart_setInputs]
  split
  · rfl
  · rfl

theorem sendFrame_setInputs (rest : List Input) (s : State) :
    sendFrame (setInputs rest s) = ((sendFrame s).1, setInputs rest (sendFrame s).2) := by
  unfold sendFrame
  rw [drawSend_setInputs]
  rfl

theorem insertBytes_setInputs (bs : List Byte) (o : Nat) (rest : List Input) (s : State) :
    insertBytes bs o (setInputs rest s) = withInputs rest (insertBytes bs o s) := by
  simp only [insertBytes, apply_ite (withInputs rest)]
  rfl

theorem outsideLink_setInputs (c : LinkCall) (rest : List Input) (s : State) :
    outsideLink c (setInputs rest s) = withInputs rest (outsideLink c s) := by
  cases c with
  | packetReady | flush | write8 | write16 | write32 => rfl
  | nextPacketUpdate =>
    simp only [outsideLink, setInputs_mem]
    cases s.mem.rxq <;> rfl
  | readBlock | dump | getReadPointer => 
    simp only [outsideLink, withInputs, andThen_assoc, andThen_next, setInputs_mem]
    rfl
  | writeStart => simp only [outsideLink, writeStart_setInputs]; rfl
  | insert bs o => exact insertBytes_setInputs bs o.toNat rest s
  | send => simp only [outsideLink, sendFrame_setInputs]; rfl

/-- A written register other than CMD is a step that consumes the write. -/
theorem step_of_write {s : State} {n : Nat} {v : Word} {rest : List Input} (h : s.inputs = .writeReg n v :: rest)
    (hc : commandOf (.writeReg n v) = none) : step s = withInputs rest (writeRegister n v s) :=
  (step_of_access h hc).trans (writeRegister_setInputs ..)

/-- A read is a step that consumes it and keeps the answer. -/
theorem step_of_read {s : State} {n : Nat} {rest : List Input} (h : s.inputs = .readReg n :: rest) :
    step s = andThen (readRegister n s) fun w => .next { s with inputs := rest, answer := .value w } :=
  step_of_access h rfl

/-- A link-layer call is a step that consumes it. -/
theorem step_of_link {s : State} {c : LinkCall} {rest : List Input} (h : s.inputs = .link c :: rest) :
    step s = withInputs rest (outsideLink c s) :=
  (step_of_access h rfl).trans (outsideLink_setInputs ..)

/-- Settles O6: one clause for each kind of action, each the step's own equation. -/
theorem stepRunsTheCommandWritten : Obligations.StepRunsTheCommandWritten := by
  refine ⟨fun s v rest h hv => ⟨rfl, step_of_command h (commandOf_byte hv)⟩, fun s v rest h hv => ?_,
    fun s n v rest h hn => ?_, fun s n rest h => ?_, fun s f rest h => step_of_access h rfl, fun s c rest h => ?_,
    fun s => step_of_idle⟩
  · exact step_of_write h (commandOf_wide hv)
  · have hstep := step_of_write h (commandOf_other_register hn v)
    exact ⟨fun t ht => by rw [hstep, ht, withInputs_next], fun r hr => by rw [hstep, hr, withInputs_refused]⟩
  · have hstep := step_of_read h
    exact ⟨fun w hw => by rw [hstep, hw, andThen_next], fun r hr => by rw [hstep, hr, andThen_refused]⟩
  · have hstep := step_of_link h
    exact ⟨fun t ht => by rw [hstep, ht, withInputs_next], fun r hr => by rw [hstep, hr, withInputs_refused]⟩

/-! ### Reset -/

/-- Settles O7: the four registers by their reset values, the others because `Held.none` and HDR_VALID = 0 hold back
their reads. -/
theorem resetRegisters : Obligations.ResetRegisters := by
  refine ⟨rfl, rfl, rfl, rfl, step_of_idle rfl, fun n hn => ?_⟩
  fin_cases hn
  all_goals exact readHeld_of_not_held rfl _ _

/-- Settles O8: clause by clause, on the values that reset leaves. -/
theorem resetHasInvariant : Obligations.ResetHasInvariant where
  status_legal := by decide
  header_closed := rfl
  memory_wf := reset_memory_wf
  acc_folded := by decide
  tx_recorded := nofun

/-! ### Operands that hold no value (10_state R35, 30_encoding R100) -/

/-- OP0 is not read where it holds no value. -/
theorem operand0_of_not_held {s : State} (h : s.held.op0 = false) : operand0 s = .refused (.registerHoldsNoValue 4) :=
  readHeld_of_not_held h _ _

/-- OP1 is not read where it holds no value. -/
theorem operand1_of_not_held {s : State} (h : s.held.op1 = false) : operand1 s = .refused (.registerHoldsNoValue 5) :=
  readHeld_of_not_held h _ _

/-- OP2 is not read where it holds no value. -/
theorem operand2_of_not_held {s : State} (h : s.held.op2 = false) : operand2 s = .refused (.registerHoldsNoValue 6) :=
  readHeld_of_not_held h _ _

/-- OP3 is not read where it holds no value. -/
theorem operand3_of_not_held {s : State} (h : s.held.op3 = false) : operand3 s = .refused (.registerHoldsNoValue 7) :=
  readHeld_of_not_held h _ _

/-- The operations with an operand begin with the read of OP0. -/
theorem exec_reads_op0 (s : State) {i : Instr}
    (hi : i ∈ [Instr.csumRx, .csumTx, .phcsum, .swap16, .swap32, .classify, .isBcast, .sameSubnet, .txStart, .txSend]) :
    ∃ k, exec i s = andThen (operand0 s) k := by
  fin_cases hi
  all_goals exact ⟨_, rfl⟩

/-- The operations with two operands read OP1 next. -/
theorem exec_reads_op1 (s : State) {i : Instr}
    (hi : i ∈ [Instr.csumRx, .csumTx, .phcsum, .classify, .isBcast, .sameSubnet, .txStart]) :
    ∃ k : Word → Word → Result State, exec i s = andThen (operand0 s) fun a => andThen (operand1 s) (k a) := by
  fin_cases hi
  all_goals exact ⟨_, rfl⟩

/-- The operations with three operands read OP2 next. -/
theorem exec_reads_op2 (s : State) {i : Instr} (hi : i ∈ [Instr.csumTx, .phcsum, .classify, .sameSubnet]) :
    ∃ k : Word → Word → Word → Result State, exec i s =
      andThen (operand0 s) fun a => andThen (operand1 s) fun b => andThen (operand2 s) (k a b) := by
  fin_cases hi
  all_goals exact ⟨_, rfl⟩

/-- Settles O28: the operands are read in order before anything else, and the first without a value refuses. -/
theorem operandWithoutValueRefused : Obligations.OperandWithoutValueRefused := by
  refine ⟨fun s h0 i hi => ?_, fun s h0 h1 i hi => ?_, fun s h0 h1 h2 i hi => ?_, fun s h0 h1 h2 h3 => ?_⟩
  · obtain ⟨k, hk⟩ := exec_reads_op0 s hi
    rw [hk, operand0_of_not_held h0, andThen_refused]
  · obtain ⟨k, hk⟩ := exec_reads_op1 s hi
    rw [hk, operand0_of_held h0, andThen_next, operand1_of_not_held h1, andThen_refused]
  · obtain ⟨k, hk⟩ := exec_reads_op2 s hi
    rw [hk, operand0_of_held h0, andThen_next, operand1_of_held h1, andThen_next, operand2_of_not_held h2,
      andThen_refused]
  · change execPhcsum s = _
    rw [execPhcsum, operand0_of_held h0, andThen_next, operand1_of_held h1, andThen_next, operand2_of_held h2,
      andThen_next, operand3_of_not_held h3, andThen_refused]

end Sys2Proof.Machine
end

section
/-! PROOFS. The link layer's buffers under an outside agent's calls (20_memory R62, R63, R66, R74; 45_interfaces R251 to
R262): what each call answers and does, by way of the rules for the ranges, for `overwrite` and for listed answers. -/

namespace Sys2Proof.Machine

open Sys2Proof.Claims

variable {s : State}

/-! ### RX space -/

/-- With no current frame the calls that need one are refused (20_memory R74). -/
theorem outsideLink_rx_of_none (h : s.mem.rxf = none) (n : Half) :
    ∀ c ∈ [LinkCall.readBlock n, .dump n, .getReadPointer], outsideLink c s = .refused .rxNoFrame := by
  intro c hc
  fin_cases hc
  all_goals simp only [outsideLink, rxRange_of_none h, andThen_refused]

/-- Past the end of the current frame nothing is consumed (20_memory R74). -/
theorem outsideLink_rx_of_lt {f : List Byte} {n : Half} (hf : s.mem.rxf = some f)
    (h : f.length < s.mem.rp + n.toNat) :
    ∀ c ∈ [LinkCall.readBlock n, .dump n], outsideLink c s = .refused .rxOutOfRange := by
  intro c hc
  fin_cases hc
  all_goals simp only [outsideLink, rxRange_of_lt hf h, andThen_refused]

/-- A block within the frame is answered and consumed (45_interfaces R253). -/
theorem outsideLink_readBlock_of_le {f : List Byte} {n : Half} (hf : s.mem.rxf = some f)
    (h : s.mem.rp + n.toNat ≤ f.length) :
    outsideLink (.readBlock n) s =
      .next { s with answer := .bytes (ahead s f n.toNat), mem := { s.mem with rp := s.mem.rp + n.toNat } } := by
  rw [outsideLink, rxRange_of_le hf h, andThen_next]; rfl

/-- A range within the frame is consumed (45_interfaces R254). -/
theorem outsideLink_dump_of_le {f : List Byte} {n : Half} (hf : s.mem.rxf = some f)
    (h : s.mem.rp + n.toNat ≤ f.length) :
    outsideLink (.dump n) s = .next { s with mem := { s.mem with rp := s.mem.rp + n.toNat } } := by
  rw [outsideLink, rxRange_of_le hf h, andThen_next]; rfl

/-- The read pointer is answered where it lies within the current frame. -/
theorem outsideLink_getReadPointer_of_le {f : List Byte} (hf : s.mem.rxf = some f) (h : s.mem.rp ≤ f.length) :
    outsideLink .getReadPointer s = .next { s with answer := .offset s.mem.rp } := by
  rw [outsideLink, rxRange_of_le hf (n := 0) h, andThen_next]; rfl

/-- Whether a frame is queued is answered, and nothing is consumed (45_interfaces R251). -/
theorem outsideLink_packetReady (s : State) :
    outsideLink .packetReady s = .next { s with answer := .flag (decide (s.mem.rxq ≠ [])) } := by
  rw [outsideLink]
  cases s.mem.rxq <;> rfl

/-- With no frame queued there is none to advance to (log 27). -/
theorem outsideLink_nextPacketUpdate_of_empty (h : s.mem.rxq = []) :
    outsideLink .nextPacketUpdate s = .refused .rxQueueEmpty := by
  simp only [outsideLink, h]

/-- The oldest frame queued becomes the current one (45_interfaces R252). -/
theorem outsideLink_nextPacketUpdate_of_frame {f : List Byte} {rest : List (List Byte)} (h : s.mem.rxq = f :: rest) :
    outsideLink .nextPacketUpdate s = .next { s with mem := { s.mem with rxq := rest, rxf := some f, rp := 0 } } := by
  simp only [outsideLink, h]; rfl

/-! ### TX space -/

/-- An insert past the write pointer is refused (20_memory R74). -/
theorem outsideLink_insert_of_lt {bs : List Byte} {o : Half} (h : s.mem.wp < o.toNat + bs.length) :
    outsideLink (.insert bs o) s = .refused .txOutOfRange :=
  if_neg (Nat.not_le.mpr h)

/-- An insert below the write pointer overwrites its range (45_interfaces R260). -/
theorem outsideLink_insert_of_le {bs : List Byte} {o : Half} (h : o.toNat + bs.length ≤ s.mem.wp) :
    outsideLink (.insert bs o) s = .next { s with mem := overwrite bs o.toNat s.mem } :=
  if_pos h

/-- The link header of 14 bytes: the link target first, the type field last (20_memory R63). -/
theorem linkHeader_fields (target : LinkAddr) (other : Nat → Byte) (t : Half) :
    (linkHeader target other t).length = 14 ∧ (linkHeader target other t).take 6 = linkBytes target ∧
      (linkHeader target other t).drop 12 = be16 t := by
  rw [linkHeader_eq, linkAddrBytes_eq]
  exact ⟨rfl, rfl, rfl⟩

/-- `writeStart` gives the listed answer, and begins a frame if that is ok (45_interfaces R258). -/
theorem outsideLink_writeStart_listed {target : LinkAddr} {t : Half} {ok : Bool} {rest : List Bool}
    (h : s.env.writeStart = ok :: rest) :
    ∃ buf n, outsideLink (.writeStart target t) s =
        .next { s with
          answer := .flag ok, env := { s.env with writeStart := rest }, free := n,
          mem := { s.mem with txbuf := buf } } ∧
      (ok = true → ∃ other, buf = linkHeader target other t) := by
  simp only [outsideLink, writeStart, drawWriteStart_listed h]
  cases ok
  · exact ⟨Config.freeTxSpace s.free, s.free + 1, rfl, nofun⟩
  · exact ⟨linkHeader target (Config.freeLinkByte s.free) t, s.free + 1, rfl, fun _ => ⟨_, rfl⟩⟩

/-- `send` gives the listed answer, and hands TXBUF to the medium whatever it is (45_interfaces R262). -/
theorem outsideLink_send_listed {ok : Bool} {rest : List Bool} (h : s.env.send = ok :: rest) :
    ∃ buf n, outsideLink .send s =
      .next { s with
        answer := .flag ok, env := { s.env with send := rest }, free := n,
        mem := { s.mem with txbuf := buf, sent := s.mem.sent ++ [(s.mem.txbuf, ok)] } } := by
  refine ⟨Config.freeTxSpace s.free, s.free + 1, ?_⟩
  simp only [outsideLink, sendFrame, drawSend_listed h, loseTxSpace, countFree, setMem, setEnv, setAnswer]

/-- Settles O60: call by call, each clause from the rule of its call. -/
theorem linkCallsOnBuffers : Obligations.LinkCallsOnBuffers := by
  refine ⟨fun s n h => outsideLink_rx_of_none h n, fun s f n hf => ⟨outsideLink_rx_of_lt hf, fun h => ?_⟩,
    fun s => ⟨outsideLink_packetReady s, rfl, outsideLink_nextPacketUpdate_of_empty,
      fun f rest => outsideLink_nextPacketUpdate_of_frame⟩,
    fun s b h v => ⟨rfl, rfl, rfl⟩, fun s bs o => ⟨outsideLink_insert_of_lt, fun h => ?_⟩,
    fun s target t ok rest h => ?_, fun s ok rest => outsideLink_send_listed⟩
  · exact ⟨outsideLink_readBlock_of_le hf h, outsideLink_dump_of_le hf h,
      outsideLink_getReadPointer_of_le hf (Nat.le_of_add_right_le h)⟩
  · exact ⟨overwrite bs o.toNat s.mem, outsideLink_insert_of_le h, overwrite_wp h, rfl, rfl, rfl, rfl,
      fun k => overwrite_txByte_inside h, fun a => overwrite_txByte_outside h⟩
  · obtain ⟨buf, n, hnext, hbuf⟩ := outsideLink_writeStart_listed (target := target) (t := t) h
    refine ⟨buf, n, hnext, fun hok => ?_⟩
    obtain ⟨other, rfl⟩ := hbuf hok
    exact linkHeader_fields target other t

end Sys2Proof.Machine
end

section
/-! PROOFS. The actions of a collaborator inside a hand-off (20_memory R76, 93 U9, U17). `runHandoff` bounds the nesting of
hand-offs by the number of scripts; the one fact that the statement needs is that this bound cuts nothing off. It is
shown in two layers: no action adds a script, and actions whose deeper hand-offs agree on the scripts that are left agree
themselves. -/

namespace Sys2Proof.Machine

open Sys2Proof.Claims

/-! ### The scripts that are left -/

/-- At most `n` scripts are left for hand-offs to come. -/
def ScriptsLeft (n : Nat) (s : State) : Prop := s.env.handoffs.length ≤ n

/-- Only the scripts themselves matter. -/
theorem scriptsLeft_of_env {n : Nat} {s t : State} {e : Env} (ht : t.env = e)
    (he : e.handoffs = s.env.handoffs) (hs : ScriptsLeft n s) : ScriptsLeft n t := by
  rw [ScriptsLeft, ht, he]; exact hs

/-- The ten writes of the template go to TX space and the trace. -/
theorem writeTemplate_env (host dest : Word) (protocol : Byte) (s : State) :
    (writeTemplate host dest protocol s).env = s.env := by
  simp only [writeTemplate, callWrite8, callWrite16, callWrite32, logEvent_env, setMem_env]

section Keeps
variable {n : Nat} {s : State} (hs : ScriptsLeft n s)
include hs

theorem raiseStatus_scriptsLeft (st : Status) : Ensures (raiseStatus st s) (ScriptsLeft n) := ensures_next.mpr hs

theorem finishWith_scriptsLeft (v : Word) : Ensures (finishWith v s) (ScriptsLeft n) := ensures_next.mpr hs

theorem callClock_scriptsLeft : ScriptsLeft n (callClock s).2 := by
  obtain ⟨e, m, h, he⟩ := callClock_state s
  exact scriptsLeft_of_env (e := e) (by rw [h]) he hs

theorem callLookup_scriptsLeft (a : Word) : ScriptsLeft n (callLookup a s).2 := by
  obtain ⟨e, m, h, he⟩ := callLookup_state a s
  exact scriptsLeft_of_env (e := e) (by rw [h]) he hs

theorem callRequest_scriptsLeft (a : Word) : ScriptsLeft n (callRequest a s).2 := by
  obtain ⟨e, m, h, he⟩ := callRequest_state a s
  exact scriptsLeft_of_env (e := e) (by rw [h]) he hs

theorem callWriteStart_scriptsLeft (target : LinkAddr) (ty : Half) :
    ScriptsLeft n (callWriteStart target ty s).2 := by
  obtain ⟨e, m, buf, h, he, -⟩ := callWriteStart_state target ty s
  exact scriptsLeft_of_env (e := e) (by rw [h]) he hs

theorem callSend_scriptsLeft : ScriptsLeft n (callSend s).2 := by
  obtain ⟨e, m, buf, h, he⟩ := callSend_state s
  exact scriptsLeft_of_env (e := e) (by rw [h]) he hs

theorem callInsert_scriptsLeft (bs : List Byte) (o : Nat) : Ensures (callInsert bs o s) (ScriptsLeft n) := by
  refine ⟨fun t e => ?_⟩
  obtain ⟨-, rfl⟩ := callInsert_eq_next.mp e
  exact hs

theorem callRxChecksum_scriptsLeft (len : Nat) (seed : Half) :
    Ensures (callRxChecksum len seed s) fun r => ScriptsLeft n r.2 :=
  ensures_andThen_read fun _ => ensures_next.mpr hs

theorem callTxChecksum_scriptsLeft (o len : Nat) (seed : Half) :
    Ensures (callTxChecksum o len seed s) fun r => ScriptsLeft n r.2 :=
  ensures_andThen_read fun _ => ensures_next.mpr hs

theorem emitTemplate_scriptsLeft (target : LinkAddr) (host dest : Word) (protocol : Byte) :
    Ensures (emitTemplate target host dest protocol s) (ScriptsLeft n) := by
  have hw : ScriptsLeft n (callWriteStart target Config.ethertypeIpv4 (setLinkTarget target s)).2 :=
    callWriteStart_scriptsLeft (s := setLinkTarget target s) hs _ _
  refine ensures_ite (raiseStatus_scriptsLeft (scriptsLeft_of_env ?_ rfl hw) _)
    (raiseStatus_scriptsLeft (scriptsLeft_of_env (releaseLinkTarget_env _) rfl hw) _)
  simp only [setTxActive_env, recordTx_env, releaseLinkTarget_env, writeTemplate_env]

theorem execTxStart_scriptsLeft : Ensures (execTxStart s) (ScriptsLeft n) := by
  refine ensures_andThen_read fun dest => ensures_andThen_read fun p => ?_
  have h1 : ScriptsLeft n (setTxActive false s) := hs
  refine ensures_ite (raiseStatus_scriptsLeft h1 _) (ensures_ite (emitTemplate_scriptsLeft h1 ..) ?_)
  have hl := callLookup_scriptsLeft h1 (nextHop dest s.cfgAddr s.cfgMask s.cfgGw)
  dsimp only
  split
  · exact raiseStatus_scriptsLeft (callRequest_scriptsLeft hl _) _
  · exact emitTemplate_scriptsLeft hl ..

theorem execTxSend_scriptsLeft : Ensures (execTxSend s) (ScriptsLeft n) :=
  ensures_andThen_read fun _ =>
  ensures_ite (ensures_refused ..) <| ensures_ite (ensures_refused ..) <|
  ensures_andThen (callInsert_scriptsLeft (s := setTxActive false s) hs ..) fun _ h1 =>
  ensures_andThen (callTxChecksum_scriptsLeft h1 ..) fun _ h2 =>
  ensures_andThen (callInsert_scriptsLeft h2 ..) fun _ h3 =>
  raiseStatus_scriptsLeft (callSend_scriptsLeft h3) _

theorem outsideLink_scriptsLeft (a : LinkCall) : Ensures (outsideLink a s) (ScriptsLeft n) := by
  cases a with
  | packetReady | flush | write8 | write16 | write32 => exact ensures_next.mpr hs
  | nextPacketUpdate =>
    simp only [outsideLink]
    split
    · exact ensures_refused ..
    · exact ensures_next.mpr hs
  | readBlock | dump | getReadPointer => exact ensures_andThen_read fun _ => ensures_next.mpr hs
  | writeStart target ty => exact ensures_next.mpr (callWriteStart_scriptsLeft hs target ty)
  | insert => exact ensures_ite (ensures_next.mpr hs) (ensures_refused ..)
  | send => exact ensures_next.mpr (callSend_scriptsLeft hs)

theorem outsideInput_scriptsLeft (a : Input) : Ensures (outsideInput a s) (ScriptsLeft n) := by
  cases a with
  | writeReg reg v =>
    refine ⟨fun t e => scriptsLeft_of_env (e := s.env) ?_ rfl hs⟩
    rw [← writeRegister_frame e]
  | readReg => exact ensures_andThen_read fun _ => ensures_next.mpr hs
  | arrive => exact ensures_next.mpr hs
  | link c => exact outsideLink_scriptsLeft hs c

end Keeps

section Deeper
variable {n : Nat} {h : State → Result State} (hh : ∀ u, ScriptsLeft n u → Ensures (h u) (ScriptsLeft n))
include hh

theorem arpMaintenance_scriptsLeft (now : Word) {s : State} (hs : ScriptsLeft n s) :
    Ensures (arpMaintenance h now s) fun r => ScriptsLeft n r.1 :=
  ensures_ite (ensures_andThen (hh _ hs) fun _ ht => ensures_next.mpr ht) (ensures_next.mpr hs)

theorem tcpMaintenance_scriptsLeft (now : Word) {s : State} (hs : ScriptsLeft n s) :
    Ensures (tcpMaintenance h now s) fun r => ScriptsLeft n r.1 :=
  ensures_ite (ensures_andThen (hh _ hs) fun _ ht => ensures_next.mpr ht) (ensures_next.mpr hs)

theorem timerService_scriptsLeft {s : State} (hs : ScriptsLeft n s) :
    Ensures (timerService h s) (ScriptsLeft n) :=
  ensures_andThen (Q := fun r => ScriptsLeft n r.state)
    (ensures_andThen_read fun _ =>
      ensures_andThen (arpMaintenance_scriptsLeft hh _ (callClock_scriptsLeft hs)) fun _ ha =>
      ensures_andThen (tcpMaintenance_scriptsLeft hh _ ha) fun _ ht => ensures_next.mpr ht)
    fun _ hr => finishWith_scriptsLeft hr _

/-- No operation adds a script: those without a hand-off read operands, make link calls and write their results. -/
theorem nestedCommand_scriptsLeft (c : Byte) {s : State} (hs : ScriptsLeft n s) :
    Ensures (nestedCommand h c s) (ScriptsLeft n) := by
  unfold nestedCommand
  cases decodeCmd c with
  | nop | illegal10 | illegal20 | illegal40 | illegal80 => exact ensures_next.mpr hs
  | csumRx =>
    exact ensures_andThen_read fun _ => ensures_andThen_read fun _ =>
      ensures_andThen (callRxChecksum_scriptsLeft hs ..) fun _ hr => finishWith_scriptsLeft hr _
  | csumTx =>
    exact ensures_andThen_read fun _ => ensures_andThen_read fun _ => ensures_andThen_read fun _ =>
      ensures_andThen (callTxChecksum_scriptsLeft hs ..) fun _ hr => finishWith_scriptsLeft hr _
  | swap16 | swap32 => exact ensures_andThen_read fun _ => finishWith_scriptsLeft hs _
  | isBcast => exact ensures_andThen_read fun _ => ensures_andThen_read fun _ => finishWith_scriptsLeft hs _
  | classify | sameSubnet =>
    exact ensures_andThen_read fun _ => ensures_andThen_read fun _ => ensures_andThen_read fun _ =>
      finishWith_scriptsLeft hs _
  | phcsum =>
    exact ensures_andThen_read fun _ => ensures_andThen_read fun _ => ensures_andThen_read fun _ =>
      ensures_andThen_read fun _ => finishWith_scriptsLeft (s := setAcc _ s) hs _
  | txStart => exact execTxStart_scriptsLeft hs
  | txSend => exact execTxSend_scriptsLeft hs
  | timerSvc => exact timerService_scriptsLeft hh hs
  | rxParse | frameDemux | netTick | netInit | etypeArp | etypeIpv4 | protoIcmp | protoTcp | ipv4Byte0Accepted =>
    exact ensures_refused ..

theorem nestedInput_scriptsLeft (a : Input) {s : State} (hs : ScriptsLeft n s) :
    Ensures (nestedInput h a s) (ScriptsLeft n) := by
  unfold nestedInput
  split
  case h_1 c _ => exact nestedCommand_scriptsLeft hh c hs
  case h_2 => exact ensures_ite (ensures_refused ..) (outsideInput_scriptsLeft hs a)

theorem runScript_scriptsLeft :
    ∀ (script : List Input) {s : State}, ScriptsLeft n s → Ensures (runScript h script s) (ScriptsLeft n)
  | [], _, hs => ensures_next.mpr hs
  | a :: rest, _, hs => ensures_andThen (nestedInput_scriptsLeft hh a hs) fun _ => runScript_scriptsLeft rest

end Deeper

/-- A hand-off takes scripts and adds none, by induction on the nesting. -/
theorem runHandoff_scriptsLeft {n : Nat} :
    ∀ (depth : Nat) (s : State), ScriptsLeft n s → Ensures (runHandoff depth s) (ScriptsLeft n)
  | 0, _, hs => ensures_next.mpr hs
  | depth + 1, s, hs => by
    unfold runHandoff
    split
    case h_1 => exact ensures_next.mpr hs
    case h_2 script rest heq =>
      have hrest : rest.length ≤ n := by
        rw [ScriptsLeft, heq, List.length_cons] at hs
        omega
      exact runScript_scriptsLeft (runHandoff_scriptsLeft depth) script hrest

/-! ### Deeper hand-offs that agree -/

/-- Two sequences agree where their first parts do, and their second parts on what the first can give. -/
theorem andThen_congr {α β : Type} {o o' : Result α} {k k' : α → Result β} {Q : α → Prop} (ho : o = o')
    (hQ : Ensures o' Q) (hk : ∀ a, Q a → k a = k' a) : andThen o k = andThen o' k' := by
  subst ho
  cases o with
  | next a => exact hk a (ensures_next.mp hQ)
  | fault f => rfl
  | refused r => rfl

section Agree
variable {n : Nat} {h h' : State → Result State} (hh : ∀ u, ScriptsLeft n u → Ensures (h' u) (ScriptsLeft n))
  (hagree : ∀ u, ScriptsLeft n u → h u = h' u)
include hagree

theorem arpMaintenance_congr (now : Word) {s : State} (hs : ScriptsLeft n s) :
    arpMaintenance h now s = arpMaintenance h' now s := by
  rw [arpMaintenance, arpMaintenance, hagree (logEvent .arpUpdate s) hs]

theorem tcpMaintenance_congr (now : Word) {s : State} (hs : ScriptsLeft n s) :
    tcpMaintenance h now s = tcpMaintenance h' now s := by
  rw [tcpMaintenance, tcpMaintenance, hagree (logEvent .tcpUpdate s) hs]

include hh

theorem timerService_congr {s : State} (hs : ScriptsLeft n s) : timerService h s = timerService h' s := by
  have hc := callClock_scriptsLeft hs
  have hbody : timerBody h s = timerBody h' s := by
    refine congrArg (andThen _) (funext fun _ => ?_)
    exact andThen_congr (arpMaintenance_congr hagree _ hc) (arpMaintenance_scriptsLeft hh _ hc) fun a ha =>
      congrArg (andThen · _) (tcpMaintenance_congr hagree _ ha)
  rw [timerService, timerService, hbody]

/-- Of the commands only TIMER_SVC makes hand-offs of its own. -/
theorem nestedCommand_congr (c : Byte) {s : State} (hs : ScriptsLeft n s) :
    nestedCommand h c s = nestedCommand h' c s := by
  unfold nestedCommand
  cases decodeCmd c with
  | timerSvc => exact timerService_congr hh hagree hs
  | _ => rfl

theorem nestedInput_congr (a : Input) {s : State} (hs : ScriptsLeft n s) : nestedInput h a s = nestedInput h' a s := by
  unfold nestedInput
  split
  case h_1 c _ => exact nestedCommand_congr hh hagree c (s := setCmd c s) hs
  case h_2 => rfl

theorem runScript_congr :
    ∀ (script : List Input) {s : State}, ScriptsLeft n s → runScript h script s = runScript h' script s
  | [], _, _ => rfl
  | a :: rest, _, hs =>
    andThen_congr (nestedInput_congr hh hagree a hs) (nestedInput_scriptsLeft hh a hs) fun _ => runScript_congr rest

end Agree

/-! ### The bound on the nesting cuts nothing off -/

/-- Two bounds that both reach the number of scripts give the same hand-off: taking a script leaves one less. -/
theorem runHandoff_congr : ∀ (depth depth' : Nat) (s : State), ScriptsLeft depth s → ScriptsLeft depth' s →
    runHandoff depth s = runHandoff depth' s
  | 0, 0, _, _, _ => rfl
  | 0, depth' + 1, s, hs, _ => by
    rw [runHandoff, runHandoff, List.eq_nil_of_length_eq_zero (Nat.le_zero.mp hs)]
  | depth + 1, 0, s, _, hs => by
    rw [runHandoff, runHandoff, List.eq_nil_of_length_eq_zero (Nat.le_zero.mp hs)]
  | depth + 1, depth' + 1, s, hs, hs' => by
    unfold runHandoff
    split
    case h_1 => rfl
    case h_2 script rest heq =>
      rw [ScriptsLeft, heq, List.length_cons, Nat.add_le_add_iff_right] at hs hs'
      refine runScript_congr (n := rest.length) (runHandoff_scriptsLeft depth') (fun u hu => ?_) script (Nat.le_refl _)
      exact runHandoff_congr depth depth' u (hu.trans hs) (hu.trans hs')

/-- A hand-off takes the next script, and its actions make hand-offs of the same kind. -/
theorem collaborate_of_script {s : State} {script : List Input} {later : List (List Input)}
    (h : s.env.handoffs = script :: later) :
    collaborate s = runScript collaborate script (setEnv { s.env with handoffs := later } s) := by
  have hrun : collaborate s =
      runScript (runHandoff later.length) script (setEnv { s.env with handoffs := later } s) := by
    simp only [collaborate, h, List.length_cons, runHandoff]
  rw [hrun]
  exact runScript_congr (n := later.length) (fun u => runHandoff_scriptsLeft _ u)
    (fun u hu => runHandoff_congr _ _ u hu (Nat.le_refl _)) script (Nat.le_refl _)

/-! ### One action -/

/-- A byte in CMD selects a command, never a dispatch row (30_encoding R98). -/
theorem formatOf_decodeCmd (c : Byte) : formatOf (decodeCmd c) = .cmd8 := by
  unfold decodeCmd
  split
  case h_17 =>
    split_ifs
    all_goals rfl
  all_goals rfl

/-- A command inside a hand-off: the receive operations and NET_INIT are refused, any other is that operation. -/
theorem nestedCommand_collaborate (c : Byte) (u : State) :
    nestedCommand collaborate c u =
      if decodeCmd c ∈ [Instr.rxParse, .frameDemux, .netTick, .netInit] then .refused .nestedReceive
      else exec (decodeCmd c) u := by
  have hc := formatOf_decodeCmd c
  unfold nestedCommand
  generalize decodeCmd c = i at hc ⊢
  cases i with
  | rxParse | frameDemux | netTick | netInit => exact (if_pos (by simp)).symm
  | etypeArp | etypeIpv4 | protoIcmp | protoTcp | ipv4Byte0Accepted => cases hc
  | nop | csumRx | csumTx | phcsum | swap16 | swap32 | classify | isBcast | sameSubnet | txStart | txSend | timerSvc
  | illegal10 | illegal20 | illegal40 | illegal80 => exact (if_neg (by simp)).symm

/-- The model's action inside a hand-off is the statement's. -/
theorem nestedInput_collaborate (a : Input) (u : State) : nestedInput collaborate a u = nestedAction a u := by
  cases a with
  | readReg | arrive | link => rfl
  | writeReg n v =>
    by_cases hcmd : n = 3 ∧ v.toNat < 256
    · obtain ⟨rfl, hv⟩ := hcmd
      simp only [nestedInput, commandOf_byte hv, nestedCommand_collaborate, nestedAction, hv, and_self, if_true]
      rfl
    · have hnone : commandOf (.writeReg n v) = none := by
        by_cases hn : n = 3
        · subst hn
          exact commandOf_wide (by omega)
        · exact commandOf_other_register hn v
      simp only [nestedInput, hnone, nestedAction, if_neg hcmd, isConfigWrite, decide_eq_true_eq]
      rfl

/-- Settles O59: a hand-off is its script, run under hand-offs of the same kind, so that the first action and the rest
come apart. -/
theorem nestedOperations : Obligations.NestedOperations := by
  refine ⟨fun s => collaborate_of_none, fun s later h => collaborate_of_script h, fun s a script later h => ?_⟩
  have hfirst : collaborate s =
      andThen (nestedAction a { s with env := { s.env with handoffs := later } }) (runScript collaborate script) := by
    rw [collaborate_of_script h, runScript, nestedInput_collaborate]
    rfl
  refine ⟨fun t ht => ?_, fun r hr => ?_⟩
  · rw [hfirst, ht, andThen_next, collaborate_of_script rfl]
    rfl
  · rw [hfirst, hr, andThen_refused]

end Sys2Proof.Machine
end

section
/-! PROOFS. The encodings (30_encoding R90 to R101, R108): what the arithmetic of bytes says of the header fields, which
codes the table's rows hold, and that the decoders and the encoder undo each other. -/

namespace Sys2Proof

/-! ### Bytes and fields as numbers -/

/-- A 16-bit field, most significant byte first (00_scope R11). -/
theorem ntoh16_toNat (b0 b1 : Byte) : (ntoh16 b0 b1).toNat = b0.toNat * 256 + b1.toNat := by
  have h1 := b1.isLt
  rw [ntoh16, BitVec.toNat_append, ← Nat.shiftLeft_add_eq_or_of_lt h1, Nat.shiftLeft_eq]

/-- A 32-bit field, most significant byte first (00_scope R11). -/
theorem ntoh32_toNat (b0 b1 b2 b3 : Byte) :
    (ntoh32 b0 b1 b2 b3).toNat = b0.toNat * 2 ^ 24 + b1.toNat * 2 ^ 16 + b2.toNat * 2 ^ 8 + b3.toNat := by
  have h2 := b2.isLt
  have h3 := b3.isLt
  have hhigh : (b0 ++ b1).toNat = b0.toNat * 256 + b1.toNat := ntoh16_toNat b0 b1
  rw [ntoh32, BitVec.toNat_append, ← Nat.shiftLeft_add_eq_or_of_lt h3, Nat.shiftLeft_eq, BitVec.toNat_append,
    ← Nat.shiftLeft_add_eq_or_of_lt h2, Nat.shiftLeft_eq, hhigh]
  omega

/-- Version is the high nibble (30_encoding R91). -/
theorem versionOf_toNat (b0 : Byte) : (versionOf b0).toNat = b0.toNat / 16 := by
  have h := b0.isLt
  rw [versionOf, BitVec.extractLsb'_toNat, Nat.shiftRight_eq_div_pow]
  omega

/-- ihl is the low nibble (30_encoding R91). -/
theorem ihlOf_toNat (b0 : Byte) : (ihlOf b0).toNat = b0.toNat % 16 := by
  rw [ihlOf, BitVec.extractLsb'_toNat, Nat.shiftRight_zero]

/-- The version test and the ihl tests of 30_encoding R91 together fix header byte 0. -/
theorem versionOf_ihlOf_iff (b0 : Byte) :
    versionOf b0 = Config.ipVersion ∧ (ihlOf b0).toNat = Config.ihlMin ↔ b0 = 0x45#8 := by
  rw [← BitVec.toNat_inj, ← BitVec.toNat_inj, versionOf_toNat, ihlOf_toNat]
  simp only [Config.ipVersion, Config.ihlMin, BitVec.toNat_ofNat]
  omega

/-! ### The dispatch rows -/

/-- The frame types of 30_encoding R95. -/
theorem decodeEtherType_eq_some_iff (t : Half) (i : Instr) : decodeEtherType t = some i ↔
    (t = 0x0806#16 ∧ i = .etypeArp) ∨ (t = 0x0800#16 ∧ i = .etypeIpv4) := by
  unfold decodeEtherType Config.ethertypeArp Config.ethertypeIpv4
  split_ifs with harp hip
  · subst harp; simp [eq_comm]
  · subst hip; simp [eq_comm]
  · simp [harp, hip]

/-- The protocols of 30_encoding R96. -/
theorem decodeProto_eq_some_iff (p : Byte) (i : Instr) : decodeProto p = some i ↔
    (p = 1#8 ∧ i = .protoIcmp) ∨ (p = 6#8 ∧ i = .protoTcp) := by
  unfold decodeProto Config.protoIcmp Config.protoTcp
  split_ifs with hicmp htcp
  · subst hicmp; simp [eq_comm]
  · subst htcp; simp [eq_comm]
  · simp [hicmp, htcp]

/-- The one header byte 0 that is accepted (30_encoding R91). -/
theorem decodeByte0_eq_some_iff (b : Byte) (i : Instr) :
    decodeByte0 b = some i ↔ b = 0x45#8 ∧ i = .ipv4Byte0Accepted := by
  simp only [decodeByte0, versionOf_ihlOf_iff, Option.ite_none_right_eq_some, Option.some.injEq, eq_comm (a := i)]

/-- Settles O4: each decoder by its own characterisation. -/
theorem dispatchValuesExact : Obligations.DispatchValuesExact :=
  ⟨decodeEtherType_eq_some_iff, decodeProto_eq_some_iff, decodeByte0_eq_some_iff⟩

/-! ### The illegal rows are ranges of codes -/

/-- A row whose mask drops the low `k` bits of the code holds the `2 ^ k` codes from its pattern on. -/
theorem rowMatches_highBits (k : Nat) {pattern : Byte} (hp : 2 ^ k ∣ pattern.toNat) (code : Byte) :
    rowMatches (BitVec.allOnes 8 <<< k) pattern code = true ↔
      pattern.toNat ≤ code.toNat ∧ code.toNat < pattern.toNat + 2 ^ k := by
  obtain ⟨q, hq⟩ := hp
  have hclear : (code >>> k <<< k).toNat = 2 ^ k * (code.toNat / 2 ^ k) := by
    have hle : 2 ^ k * (code.toNat / 2 ^ k) ≤ code.toNat := Nat.mul_div_le _ _
    rw [BitVec.toNat_shiftLeft, BitVec.toNat_ushiftRight, Nat.shiftRight_eq_div_pow, Nat.shiftLeft_eq, Nat.mul_comm,
      Nat.mod_eq_of_lt (hle.trans_lt code.isLt)]
  have hpos : 0 < 2 ^ k := Nat.two_pow_pos k
  calc rowMatches (BitVec.allOnes 8 <<< k) pattern code = true
      ↔ (code >>> k <<< k).toNat = pattern.toNat := by
        rw [rowMatches, beq_iff_eq, ← BitVec.shiftLeft_ushiftRight, BitVec.toNat_inj]
    _ ↔ code.toNat / 2 ^ k = q := by rw [hclear, hq, Nat.mul_left_cancel_iff hpos]
    _ ↔ pattern.toNat ≤ code.toNat ∧ code.toNat < pattern.toNat + 2 ^ k := by
        rw [Nat.div_eq_iff hpos, hq, Nat.mul_comm q]
        omega

/-- The first illegal row: codes 0x10 to 0x1F (30_encoding R101). -/
theorem wellFormed_illegal10_iff (c : Byte) : wellFormed (.illegal10 c) = true ↔ 0x10 ≤ c.toNat ∧ c.toNat < 0x20 :=
  rowMatches_highBits 4 (pattern := 0x10#8) (by decide) c

/-- The second illegal row: codes 0x20 to 0x3F (30_encoding R101). -/
theorem wellFormed_illegal20_iff (c : Byte) : wellFormed (.illegal20 c) = true ↔ 0x20 ≤ c.toNat ∧ c.toNat < 0x40 :=
  rowMatches_highBits 5 (pattern := 0x20#8) (by decide) c

/-- The third illegal row: codes 0x40 to 0x7F (30_encoding R101). -/
theorem wellFormed_illegal40_iff (c : Byte) : wellFormed (.illegal40 c) = true ↔ 0x40 ≤ c.toNat ∧ c.toNat < 0x80 :=
  rowMatches_highBits 6 (pattern := 0x40#8) (by decide) c

/-- The fourth illegal row: codes 0x80 to 0xFF (30_encoding R101). -/
theorem wellFormed_illegal80_iff (c : Byte) : wellFormed (.illegal80 c) = true ↔ 0x80 ≤ c.toNat ∧ c.toNat < 0x100 :=
  rowMatches_highBits 7 (pattern := 0x80#8) (by decide) c

/-! ### Commands -/

/-- Above the sixteen operations a code is illegal, and its range says which row it is in (30_encoding R101). -/
theorem decodeCmd_of_ge {c : Byte} (h : 0x10 ≤ c.toNat) :
    decodeCmd c =
      if c.toNat < 0x20 then .illegal10 c
      else if c.toNat < 0x40 then .illegal20 c
      else if c.toNat < 0x80 then .illegal40 c
      else .illegal80 c := by
  unfold decodeCmd
  split
  case h_17 => rfl
  all_goals omega

/-- A command byte decodes to what the encodings can express (30_encoding R98, R99, R101). -/
theorem wellFormed_decodeCmd (c : Byte) : wellFormed (decodeCmd c) = true := by
  unfold decodeCmd
  split
  case h_17 =>
    have h10 : 0x10 ≤ c.toNat := by
      simp only [imp_false] at *
      omega
    split_ifs with h20 h40 h80
    · exact (wellFormed_illegal10_iff c).mpr ⟨h10, h20⟩
    · exact (wellFormed_illegal20_iff c).mpr ⟨Nat.not_lt.mp h20, h40⟩
    · exact (wellFormed_illegal40_iff c).mpr ⟨Nat.not_lt.mp h40, h80⟩
    · exact (wellFormed_illegal80_iff c).mpr ⟨Nat.not_lt.mp h80, c.isLt⟩
  all_goals rfl

/-- The command that a byte decodes to keeps that byte as its code (30_encoding R98, R99, R101). -/
theorem encode_decodeCmd (c : Byte) : encode (decodeCmd c) = [c] := by
  unfold decodeCmd
  split
  case h_17 =>
    split_ifs
    all_goals rfl
  all_goals exact (List.singleton_inj.mpr (BitVec.eq_of_toNat_eq ‹_›)).symm

/-- Settles O2: every code lies in exactly one row, which keeps it. -/
theorem everyByteIsOneCommand : Obligations.EveryByteIsOneCommand :=
  fun c => ⟨wellFormed_decodeCmd c, Machine.formatOf_decodeCmd c, encode_decodeCmd c⟩

/-! ### Decoding an encoding -/

/-- An illegal command decodes from its code: the code's range excludes every other row (30_encoding R101). -/
theorem decodeCmd_of_illegal (i : Instr) (c : Byte) (hi : i ∈ [.illegal10 c, .illegal20 c, .illegal40 c, .illegal80 c])
    (h : wellFormed i = true) : decodeCmd c = i := by
  simp only [List.mem_cons, List.not_mem_nil, or_false] at hi
  obtain rfl | rfl | rfl | rfl := hi
  · obtain ⟨hlo, hhi⟩ := (wellFormed_illegal10_iff c).mp h
    rw [decodeCmd_of_ge hlo, if_pos hhi]
  · obtain ⟨hlo, hhi⟩ := (wellFormed_illegal20_iff c).mp h
    rw [decodeCmd_of_ge (by omega), if_neg (by omega), if_pos hhi]
  · obtain ⟨hlo, hhi⟩ := (wellFormed_illegal40_iff c).mp h
    rw [decodeCmd_of_ge (by omega), if_neg (by omega), if_neg (by omega), if_pos hhi]
  · obtain ⟨hlo, -⟩ := (wellFormed_illegal80_iff c).mp h
    rw [decodeCmd_of_ge (by omega), if_neg (by omega), if_neg (by omega), if_neg (by omega)]

/-- Settles O1: a row with one value decodes by evaluation, whatever follows it; an illegal command by the range of its
code. -/
theorem decodeOfEncode : Obligations.DecodeOfEncode := by
  intro i rest h
  cases i with
  | illegal10 c | illegal20 c | illegal40 c | illegal80 c =>
    exact congrArg (fun j => Except.ok (j, rest)) (decodeCmd_of_illegal _ c (by simp) h)
  | etypeArp | etypeIpv4 | protoIcmp | protoTcp | ipv4Byte0Accepted => rfl
  | nop | csumRx | csumTx | phcsum | swap16 | swap32 | classify | isBcast | sameSubnet | rxParse | txStart | txSend
  | frameDemux | timerSvc | netTick | netInit => rfl

/-- Settles O3: each word is the encoding of its instruction, with nothing after it. -/
theorem writtenWordsDecode : Obligations.WrittenWordsDecode :=
  ⟨decodeOfEncode .nop [] rfl, decodeOfEncode .rxParse [] rfl, decodeOfEncode .netTick [] rfl,
    decodeOfEncode (.illegal10 0x1E#8) [] rfl, decodeOfEncode (.illegal80 0xFF#8) [] rfl,
    decodeOfEncode .etypeArp [] rfl, decodeOfEncode .etypeIpv4 [] rfl, decodeOfEncode .protoTcp [] rfl,
    decodeOfEncode .ipv4Byte0Accepted [] rfl⟩

/-! ### The header -/

/-- Settles O5: each field is read at its offset, and a field of several bytes is their number. -/
theorem headerFieldPositions : Obligations.HeaderFieldPositions :=
  fun b0 _ b2 b3 b4 b5 b6 b7 _ _ b10 b11 b12 b13 b14 b15 b16 b17 b18 b19 =>
    ⟨versionOf_toNat b0, ihlOf_toNat b0, congrArg (· * 4) (ihlOf_toNat b0), rfl, ntoh16_toNat b2 b3, ntoh16_toNat b4 b5,
      ntoh16_toNat b6 b7, rfl, rfl, ntoh16_toNat b10 b11, ntoh32_toNat b12 b13 b14 b15, ntoh32_toNat b16 b17 b18 b19⟩

/-- Byte 0 = 0x45 is the one whose nibbles are the IP version and the least ihl (30_encoding R91). -/
theorem accepted_byte0_fields : versionOf 0x45#8 = 4#4 ∧ ihlOf 0x45#8 = 5#4 := by
  obtain ⟨hversion, hihl⟩ := (versionOf_ihlOf_iff 0x45#8).mpr rfl
  exact ⟨hversion, BitVec.eq_of_toNat_eq hihl⟩

/-- Settles O36: the row loads the two nibbles of the byte that it accepts. -/
theorem acceptedByte0LoadsVersionAndIhl : Obligations.AcceptedByte0LoadsVersionAndIhl := by
  intro s
  change Machine.execIpv4Byte0Accepted s = _
  obtain ⟨hversion, hihl⟩ := accepted_byte0_fields
  rw [Machine.execIpv4Byte0Accepted, hversion, hihl]

end Sys2Proof
end

section
/-! PROOFS. The arithmetic of the Checksum Engine (40_checksum R130 to R141). A fold keeps an accumulator
modulo 0xFFFF and keeps it from 0, and the two together fix its value; a checksum is 0xFFFF minus a fold. So each law of
checksums comes down to what an accumulator is modulo 0xFFFF, and to whether it is 0. -/

namespace Sys2Proof.Machine

/-! ### The fold (40_checksum R130) -/

/-- Where no carry remains the loop is over. -/
theorem foldPass_of_le {a : Nat} (h : a ≤ 0xFFFF) : foldPass a = a := by
  rw [foldPass_eq]
  omega

/-- Two passes leave no carry, so that a pass more changes nothing. -/
theorem foldPass_fold {a : Nat} (h : a < 2 ^ 32) : foldPass (fold a) = fold a := foldPass_of_le (fold_le h)

/-- The loop of R130, one pass at a time. -/
theorem fold_loop {a : Nat} (h : a < 2 ^ 32) :
    fold a = if a >>> 16 = 0 then a else fold ((a &&& 0xFFFF) + (a >>> 16)) := by
  split
  case isTrue hdone => simp only [fold, foldPass, if_pos hdone]
  case isFalse hcarry =>
    have hpass : foldPass a = (a &&& 0xFFFF) + (a >>> 16) := if_neg hcarry
    rw [← hpass]
    exact (foldPass_fold h).symm

/-- A carry added back is worth as much modulo 0xFFFF. -/
theorem foldPass_mod (a : Nat) : foldPass a % 0xFFFF = a % 0xFFFF := by
  rw [foldPass_eq]
  omega

theorem foldPass_eq_zero_iff (a : Nat) : foldPass a = 0 ↔ a = 0 := by
  rw [foldPass_eq]
  omega

/-- The fold keeps its argument modulo 0xFFFF. -/
theorem fold_mod (a : Nat) : fold a % 0xFFFF = a % 0xFFFF := by rw [fold, foldPass_mod, foldPass_mod]

/-- Only 0 folds to 0. -/
theorem fold_eq_zero_iff (a : Nat) : fold a = 0 ↔ a = 0 := by rw [fold, foldPass_eq_zero_iff, foldPass_eq_zero_iff]

/-- All ones is the fold of the multiples of 0xFFFF other than 0. -/
theorem fold_eq_allOnes_iff {a : Nat} (h : a < 2 ^ 32) : fold a = 0xFFFF ↔ a ≠ 0 ∧ a % 0xFFFF = 0 := by
  have hle := fold_le h
  have hmod := fold_mod a
  have hzero := fold_eq_zero_iff a
  omega

/-- The fold of a sum is fixed by its residue modulo 0xFFFF and by whether it is 0. -/
theorem fold_congr {a b : Nat} (ha : a < 2 ^ 32) (hb : b < 2 ^ 32) (hmod : a % 0xFFFF = b % 0xFFFF)
    (hzero : a = 0 ↔ b = 0) : fold a = fold b := by
  have hla := fold_le ha
  have hlb := fold_le hb
  have hma := fold_mod a
  have hmb := fold_mod b
  have hza := fold_eq_zero_iff a
  have hzb := fold_eq_zero_iff b
  omega

/-- Settles O12: a fold lies in 0 to 0xFFFF, has its argument's residue, and is 0 for 0 alone. -/
theorem foldIsEndAroundCarry : Obligations.FoldIsEndAroundCarry := by
  intro a h
  have hle := fold_le h
  have hmod := fold_mod a
  refine ⟨fold_loop h, hle, fun hne => ?_, fun hne hres => (fold_eq_allOnes_iff h).mpr ⟨hne, hres⟩, fold_eq_zero_iff a⟩
  omega

/-! ### The sum of a range's words (40_checksum R131) -/

/-- The exact bound: each pair of bytes is at most 0xFFFF, and an odd last byte at most 0xFF00. -/
theorem wordSum_le_exact : ∀ bs : List Byte, wordSum bs ≤ bs.length / 2 * 0xFFFF + bs.length % 2 * 0xFF00
  | [] => Nat.le_refl 0
  | [b] => by
    have hb := b.isLt
    simp only [wordSum, List.length_singleton]
    omega
  | b0 :: b1 :: rest => by
    have h0 := b0.isLt
    have h1 := b1.isLt
    have ih := wordSum_le_exact rest
    simp only [wordSum, List.length_cons]
    omega

theorem toNat_eq_zero_iff {w : Nat} {v : BitVec w} : v.toNat = 0 ↔ v = 0#w := by
  rw [← BitVec.toNat_inj, BitVec.toNat_zero]

/-- A sum of words is 0 for a range of zero bytes alone. -/
theorem wordSum_eq_zero_iff : ∀ bs : List Byte, wordSum bs = 0 ↔ ∀ b ∈ bs, b = 0#8
  | [] => by simp [wordSum]
  | [b] => by simp [wordSum, toNat_eq_zero_iff]
  | b0 :: b1 :: rest => by simp [wordSum, wordSum_eq_zero_iff rest, toNat_eq_zero_iff, and_assoc]

theorem be16_length_even (v : Half) : (be16 v).length % 2 = 0 := by simp [be16]

/-- A 16-bit field on an even offset is one word of the sum. -/
theorem wordSum_be16 (v : Half) : wordSum (be16 v) = v.toNat := by
  have hv := v.isLt
  simp only [be16, wordSum, BitVec.extractLsb'_toNat, Nat.shiftRight_eq_div_pow]
  omega

/-- A slice of a slice is a slice. -/
theorem extractLsb'_extractLsb' {w : Nat} (v : BitVec w) {start len off width : Nat} (h : start + len ≤ width) :
    (v.extractLsb' off width).extractLsb' start len = v.extractLsb' (off + start) len := by
  ext i _
  simp [show start + i < width by omega, Nat.add_assoc]

/-- A 32-bit field is its two halves, the high one first. -/
theorem be32_eq_be16_append (v : Word) : be32 v = be16 (v.extractLsb' 16 16) ++ be16 (v.extractLsb' 0 16) := by
  simp only [be32, be16, List.cons_append, List.nil_append, extractLsb'_extractLsb' v (by decide : 8 + 8 ≤ 16),
    extractLsb'_extractLsb' v (by decide : 0 + 8 ≤ 16), Nat.reduceAdd]

/-- A 32-bit field on an even offset is two words of the sum. -/
theorem wordSum_be32 (v : Word) : wordSum (be32 v) = (v.extractLsb' 16 16).toNat + (v.extractLsb' 0 16).toNat := by
  rw [be32_eq_be16_append, wordSum_append _ _ (be16_length_even _), wordSum_be16, wordSum_be16]

/-- One byte of a range counts in the sum with a weight that its offset alone decides: 256 at an even offset, 1 at an
odd one. -/
theorem exists_wordSum_weight (after : List Byte) :
    ∀ before : List Byte, ∃ weight others, (weight = 1 ∨ weight = 256) ∧
      ∀ b : Byte, wordSum (before ++ [b] ++ after) = b.toNat * weight + others
  | [] => by
    cases after with
    | nil => exact ⟨256, 0, .inr rfl, fun b => by simp [wordSum]⟩
    | cons a rest => exact ⟨256, a.toNat + wordSum rest, .inr rfl, fun b => by simp [wordSum, Nat.add_assoc]⟩
  | [a] => ⟨1, a.toNat * 256 + wordSum after, .inl rfl, fun b => by simp [wordSum]; omega⟩
  | a0 :: a1 :: rest => by
    obtain ⟨weight, others, hweight, hsum⟩ := exists_wordSum_weight after rest
    refine ⟨weight, a0.toNat * 256 + a1.toNat + others, hweight, fun b => ?_⟩
    have hb := hsum b
    simp only [List.cons_append, wordSum] at hb ⊢
    omega

/-! ### The accumulator and the checksum (40_checksum R131, R132) -/

theorem accumulate_append {a : List Byte} (b : List Byte) (seed : Half) (h : a.length % 2 = 0) :
    accumulate (a ++ b) seed = accumulate a seed + wordSum b := by
  rw [accumulate, wordSum_append a b h, accumulate, Nat.add_assoc]

theorem accumulate_eq_zero_iff (bs : List Byte) (seed : Half) :
    accumulate bs seed = 0 ↔ (∀ b ∈ bs, b = 0#8) ∧ seed = 0#16 := by
  rw [accumulate, Nat.add_eq_zero_iff, wordSum_eq_zero_iff, toNat_eq_zero_iff, and_comm]

/-- A checksum is 0xFFFF minus the fold. -/
theorem csum_toNat {bs : List Byte} (h : bs.length ≤ 65535) (seed : Half) :
    (csum bs seed).toNat = 0xFFFF - fold (accumulate bs seed) := by
  have hle := foldedSum_le h seed
  rw [csum, BitVec.toNat_not, BitVec.toNat_ofNat, Nat.mod_eq_of_lt (by omega)]
  rfl

/-- A range verifies exactly when it sums to a multiple of 0xFFFF other than 0 (40_checksum R138 (5)). -/
theorem csum_eq_zero_iff {bs : List Byte} (h : bs.length ≤ 65535) (seed : Half) :
    csum bs seed = 0x0000#16 ↔ accumulate bs seed ≠ 0 ∧ accumulate bs seed % 0xFFFF = 0 := by
  have hlt := accumulate_lt h seed
  have hle := fold_le hlt
  rw [← fold_eq_allOnes_iff hlt, ← BitVec.toNat_inj, csum_toNat h, BitVec.toNat_ofNat]
  omega

/-- A checksum is all ones exactly when everything summed is zero. -/
theorem csum_eq_allOnes_iff {bs : List Byte} (h : bs.length ≤ 65535) (seed : Half) :
    csum bs seed = 0xFFFF#16 ↔ accumulate bs seed = 0 := by
  have hle := fold_le (accumulate_lt h seed)
  rw [← fold_eq_zero_iff, ← BitVec.toNat_inj, csum_toNat h, BitVec.toNat_ofNat]
  omega

/-- Settles O13: by the exact bound on a range, and by the two folds that a checksum's extremes come from. -/
theorem checksumZeroAndAllOnes : Obligations.ChecksumZeroAndAllOnes := by
  intro bytes seed h
  refine ⟨?_, csum_eq_zero_iff h seed, (csum_eq_allOnes_iff h seed).trans (accumulate_eq_zero_iff bytes seed)⟩
  have hsum := wordSum_le_exact bytes
  have hseed := seed.isLt
  unfold accumulate
  omega

/-- Settles O14: the fold of the first part stands for its sum, modulo 0xFFFF and in not being 0. -/
theorem checksumSeedingLaw : Obligations.ChecksumSeedingLaw := by
  intro a b seed ha hlen
  have hla : a.length ≤ 65535 := by rw [List.length_append] at hlen; omega
  have hlb : b.length ≤ 65535 := by rw [List.length_append] at hlen; omega
  have hfold := fold_le (accumulate_lt hla seed)
  have hmod := fold_mod (accumulate a seed)
  have hzero := fold_eq_zero_iff (accumulate a seed)
  have hseeded : accumulate b (BitVec.ofNat 16 (fold (accumulate a seed))) =
      fold (accumulate a seed) + wordSum b := by
    rw [accumulate, BitVec.toNat_ofNat, Nat.mod_eq_of_lt (by omega)]
  have hsame : fold (accumulate (a ++ b) seed) = fold (accumulate b (BitVec.ofNat 16 (fold (accumulate a seed)))) := by
    refine fold_congr (accumulate_lt hlen seed) (accumulate_lt hlb _) ?_ ?_
    all_goals
      rw [hseeded, accumulate_append b seed ha]
      omega
  rw [csum, foldedSum, hsame]
  rfl

/-- A field on an even offset adds its value to what the rest of the range sums to. -/
theorem accumulate_field (before after : List Byte) (v seed : Half) (h : before.length % 2 = 0) :
    accumulate (before ++ be16 v ++ after) seed = v.toNat + accumulate (before ++ after) seed := by
  rw [List.append_assoc, accumulate_append _ seed h, wordSum_append _ after (be16_length_even v), wordSum_be16,
    accumulate_append after seed h]
  omega

/-- Settles O15: the checksum stored is what the sum lacks to a multiple of 0xFFFF. -/
theorem storedChecksumVerifies : Obligations.StoredChecksumVerifies := by
  intro before after seed hbefore _ hlen
  have hlen' : (before ++ be16 (csum (before ++ [0#8, 0#8] ++ after) seed) ++ after).length ≤ 65535 := by
    simpa [be16] using hlen
  have hcleared : accumulate (before ++ [0#8, 0#8] ++ after) seed = 0 + accumulate (before ++ after) seed :=
    accumulate_field before after 0#16 seed hbefore
  have hle := fold_le (accumulate_lt hlen seed)
  have hmod := fold_mod (accumulate (before ++ [0#8, 0#8] ++ after) seed)
  have hzero := fold_eq_zero_iff (accumulate (before ++ [0#8, 0#8] ++ after) seed)
  rw [csum_eq_zero_iff hlen', accumulate_field before after _ seed hbefore, csum_toNat hlen]
  omega

/-- No byte of a range that verifies can be exchanged for another: two bytes differ by less than 0xFFFF, whatever the
weight they count with. -/
theorem byte_eq_of_csum_eq_zero {before after : List Byte} {b c : Byte} {seed : Half}
    (hlen : (before ++ [b] ++ after).length ≤ 65535) (hb : csum (before ++ [b] ++ after) seed = 0x0000#16)
    (hc : csum (before ++ [c] ++ after) seed = 0x0000#16) : b = c := by
  have hlen' : (before ++ [c] ++ after).length ≤ 65535 := by simpa using hlen
  obtain ⟨weight, others, hweight, hsum⟩ := exists_wordSum_weight after before
  obtain ⟨-, hbmod⟩ := (csum_eq_zero_iff hlen seed).mp hb
  obtain ⟨-, hcmod⟩ := (csum_eq_zero_iff hlen' seed).mp hc
  rw [accumulate, hsum] at hbmod hcmod
  have hblt := b.isLt
  have hclt := c.isLt
  refine BitVec.eq_of_toNat_eq ?_
  obtain rfl | rfl := hweight
  · omega
  · omega

/-- Flipping a bit of a byte gives another byte. -/
theorem xor_bit_ne (b : Byte) {k : Nat} (hk : k < 8) : b ^^^ (1#8 <<< k) ≠ b := by
  intro h
  have hbit := congrArg (·.getLsbD k) h
  simp [hk] at hbit

/-- Settles O16: the flipped byte is another one, and no two bytes in one place both verify. -/
theorem singleBitFlipIsDetected : Obligations.SingleBitFlipIsDetected := by
  intro before after b k seed hk hlen hverifies hflipped
  exact xor_bit_ne b hk (byte_eq_of_csum_eq_zero hlen hverifies hflipped).symm

/-- The words of the pseudo-header: two for each address, the protocol, the length (30_encoding R93). -/
theorem wordSum_pseudoHeader (protocol : Byte) (payloadLength : Half) (src dst : Word) :
    wordSum (pseudoHeader protocol payloadLength src dst) =
      (src.extractLsb' 16 16).toNat + (src.extractLsb' 0 16).toNat + (dst.extractLsb' 16 16).toNat +
        (dst.extractLsb' 0 16).toNat + protocol.toNat + payloadLength.toNat := by
  have hprotocol : wordSum [0#8, protocol] = protocol.toNat := by simp [wordSum]
  rw [pseudoHeader, wordSum_append, wordSum_append, wordSum_append, wordSum_be32, wordSum_be32, hprotocol,
    wordSum_be16]
  · omega
  all_goals simp [be32]

/-- Settles O17: a sum is taken piece by piece, each piece but the last of an even length. -/
theorem checksumWordsWrittenOut : Obligations.ChecksumWordsWrittenOut := by
  refine ⟨fun seed => Nat.add_zero _, fun a b0 b1 seed ha => ?_, fun a b seed ha => ?_, fun protocol n src dst => ?_⟩
  · simp only [accumulate_append _ seed ha, wordSum, Nat.add_zero]
  · simp only [accumulate_append _ seed ha, wordSum, Nat.add_zero]
  · rw [phsum, phFoldedSum, foldedSum, accumulate, wordSum_pseudoHeader, BitVec.toNat_ofNat, Nat.zero_mod, Nat.zero_add]

end Sys2Proof.Machine
end

section
/-! PROOFS. The operations of the Checksum Engine (40_checksum R133 to R137): each is an equation once its operands hold
a value, by way of the rules for the ranges of the buffers. -/

namespace Sys2Proof.Machine

open Sys2Proof.Claims

/-! ### CSUM_RX and CSUM_TX -/

/-- CSUM_RX with its operands (40_checksum R133). -/
theorem execCsumRx_of_held {s : State} (h0 : s.held.op0 = true) (h1 : s.held.op1 = true) :
    execCsumRx s =
      andThen (callRxChecksum (low16 s.op0).toNat (low16 s.op1) s) fun r => finishWith (zext32 r.1) r.2 := by
  rw [execCsumRx, operand0_of_held h0, andThen_next, operand1_of_held h1, andThen_next]

/-- CSUM_TX with its operands (40_checksum R134). -/
theorem execCsumTx_of_held {s : State} (h0 : s.held.op0 = true) (h1 : s.held.op1 = true) (h2 : s.held.op2 = true) :
    execCsumTx s =
      andThen (callTxChecksum (low16 s.op0).toNat (low16 s.op1).toNat (low16 s.op2) s) fun r =>
        finishWith (zext32 r.1) r.2 := by
  rw [execCsumTx, operand0_of_held h0, andThen_next, operand1_of_held h1, andThen_next, operand2_of_held h2,
    andThen_next]

/-- Settles O19: the range at the read pointer is refused, or summed where it stands. -/
theorem csumRxResult : Obligations.CsumRxResult := by
  refine ⟨rfl, fun s h0 h1 => ⟨fun hnone => ?_, fun f hf => ⟨fun hlt => ?_, fun hle => ?_⟩⟩⟩
  all_goals change execCsumRx s = _; rw [execCsumRx_of_held h0 h1, callRxChecksum]
  · rw [rxRange_of_none hnone, andThen_refused, andThen_refused]
  · rw [rxRange_of_lt (n := (low16 s.op0).toNat) hf hlt, andThen_refused, andThen_refused]
  · rw [rxRange_of_le (n := (low16 s.op0).toNat) hf hle, andThen_next, andThen_next]
    rfl

/-- Settles O20: the range of TX space is refused, or summed where it stands. -/
theorem csumTxResult : Obligations.CsumTxResult := by
  refine ⟨rfl, fun s h0 h1 h2 => ⟨fun hlt => ?_, fun hle => ?_⟩⟩
  all_goals change execCsumTx s = _; rw [execCsumTx_of_held h0 h1 h2, callTxChecksum]
  · rw [txRange_of_lt (o := (low16 s.op0).toNat) (n := (low16 s.op1).toNat) hlt, andThen_refused, andThen_refused]
  · rw [txRange_of_le (o := (low16 s.op0).toNat) (n := (low16 s.op1).toNat) hle, andThen_next, andThen_next]
    rfl

/-! ### PHCSUM -/

/-- Settles O21: with its operands the operation is its writes, and the statement's 12 bytes are the pseudo-header. -/
theorem phcsumResult : Obligations.PhcsumResult := by
  intro s h0 h1 h2 h3
  exact execPhcsum_of_held h0 h1 h2 h3

/-! ### SWAP16 and SWAP32 -/

/-- Two swaps of a pair of bytes cancel: the low half of a pair is its second byte, the high half its first. -/
theorem swapBytes16_swapBytes16 (v : Half) : swapBytes16 (swapBytes16 v) = v := by
  have hlow : (swapBytes16 v).extractLsb' 0 8 = v.extractLsb' 8 8 := BitVec.extractLsb'_append_eq_right
  have hhigh : (swapBytes16 v).extractLsb' 8 8 = v.extractLsb' 0 8 := BitVec.extractLsb'_append_eq_left
  calc swapBytes16 (swapBytes16 v)
      = v.extractLsb' 8 8 ++ v.extractLsb' 0 8 := by rw [swapBytes16, hlow, hhigh]
    _ = v.extractLsb' 0 16 := BitVec.extractLsb'_append_extractLsb'_eq_extractLsb' rfl
    _ = v := BitVec.extractLsb'_eq_self

/-- Two swaps of four bytes cancel: each byte of a swapped word is the one opposite. -/
theorem swapBytes32_swapBytes32 (v : Word) : swapBytes32 (swapBytes32 v) = v := by
  have hbyte0 : (swapBytes32 v).extractLsb' 0 8 = v.extractLsb' 24 8 := BitVec.extractLsb'_append_eq_right
  have hbyte1 : (swapBytes32 v).extractLsb' 8 8 = v.extractLsb' 16 8 := by
    rw [swapBytes32, BitVec.extractLsb'_append_eq_of_le (by decide)]
    exact BitVec.extractLsb'_append_eq_right
  have hbyte2 : (swapBytes32 v).extractLsb' 16 8 = v.extractLsb' 8 8 := by
    rw [swapBytes32, BitVec.extractLsb'_append_eq_of_le (by decide), BitVec.extractLsb'_append_eq_of_le (by decide)]
    exact BitVec.extractLsb'_append_eq_right
  have hbyte3 : (swapBytes32 v).extractLsb' 24 8 = v.extractLsb' 0 8 := by
    rw [swapBytes32, BitVec.extractLsb'_append_eq_of_le (by decide), BitVec.extractLsb'_append_eq_of_le (by decide)]
    exact BitVec.extractLsb'_append_eq_left
  calc swapBytes32 (swapBytes32 v)
      = v.extractLsb' 24 8 ++ v.extractLsb' 16 8 ++ v.extractLsb' 8 8 ++ v.extractLsb' 0 8 := by
        rw [swapBytes32, hbyte0, hbyte1, hbyte2, hbyte3]
    _ = v.extractLsb' 0 32 := by
        rw [BitVec.extractLsb'_append_extractLsb'_eq_extractLsb' (by decide),
          BitVec.extractLsb'_append_extractLsb'_eq_extractLsb' (by decide),
          BitVec.extractLsb'_append_extractLsb'_eq_extractLsb' (by decide)]
    _ = v := BitVec.extractLsb'_eq_self

/-- The low half of a zero-extended result is the result. -/
theorem low16_zext32 (v : Half) : low16 (zext32 v) = v := by
  rw [low16, zext32, BitVec.extractLsb'_setWidth_of_le (by decide), BitVec.extractLsb'_eq_self]

/-- The statement's bit slices are SWAP16's (40_checksum R136). -/
theorem swapped16_eq (v : Word) : swapped16 v = zext32 (swapBytes16 (low16 v)) := by
  rw [swapped16, swapBytes16, low16, extractLsb'_extractLsb' v (by decide), extractLsb'_extractLsb' v (by decide),
    zext32]

/-- Settles O22: with its operand the operation is its writes; two swaps cancel on the low half. -/
theorem swap16Result : Obligations.Swap16Result := by
  refine ⟨rfl, fun s h0 => ?_, fun v => ?_⟩
  · rw [swapped16_eq]
    exact execSwap16_of_held h0
  · rw [swapped16_eq, swapped16_eq, low16_zext32, swapBytes16_swapBytes16, low16, zext32]

/-- Settles O23: with its operand the operation is its writes; two swaps cancel. -/
theorem swap32Result : Obligations.Swap32Result :=
  ⟨rfl, fun _ h0 => execSwap32_of_held h0, swapBytes32_swapBytes32⟩

end Sys2Proof.Machine
end

section
/-! PROOFS. The Address Classifier (41_classifier R150 to R155): the broadcast test is the statements' `bcastForm`, each
class network has one broadcast for a host, and an address fails every test of CLASSIFY exactly where it is not `forUs`. -/

namespace Sys2Proof.Machine

open Sys2Proof.Claims

/-! ### The broadcast forms (41_classifier R150, R151) -/

/-- The test for one class network, as R150 writes it. -/
theorem isClassBcast_iff (netmask a host : Word) :
    isClassBcast netmask a host = true ↔ a ||| netmask = 0xFFFFFFFF#32 ∧ host ||| ~~~netmask = a := by
  rw [isClassBcast, Bool.and_eq_true, beq_iff_eq, beq_iff_eq]

/-- A class network has one broadcast for a host: the host's address with every bit outside the mask set, whose bits are
then all set once the mask's are. -/
theorem isClassBcast_iff_eq (netmask a host : Word) :
    isClassBcast netmask a host = true ↔ a = host ||| ~~~netmask := by
  have hones : host ||| ~~~netmask ||| netmask = 0xFFFFFFFF#32 :=
    calc host ||| ~~~netmask ||| netmask
        = host ||| (netmask ||| ~~~netmask) := by rw [BitVec.or_assoc, BitVec.or_comm netmask]
      _ = host ||| BitVec.allOnes 32 := by rw [BitVec.or_not_self]
      _ = 0xFFFFFFFF#32 := BitVec.or_allOnes
  rw [isClassBcast_iff]
  exact ⟨fun ⟨_, hform⟩ => hform.symm, fun hform => ⟨hform ▸ hones, hform.symm⟩⟩

/-- A broadcast is the limited one, or that of one of the three class networks (41_classifier R151). -/
theorem isBcast_iff_limited_or_class (a host : Word) :
    isBcast a host = true ↔ a = 0xFFFFFFFF#32 ∨ isClassBcast Config.netmaskA a host = true ∨
      isClassBcast Config.netmaskB a host = true ∨ isClassBcast Config.netmaskC a host = true := by
  rw [isBcast, isDirectedBcast, Bool.or_eq_true, Bool.or_eq_true, Bool.or_eq_true, or_assoc, beq_iff_eq,
    Config.addrLimitedBcast]

/-- The model's test is the statements' predicate. -/
theorem isBcast_iff_bcastForm (a host : Word) : isBcast a host = true ↔ bcastForm a host := by
  rw [isBcast_iff_limited_or_class, isClassBcast_iff, isClassBcast_iff, isClassBcast_iff]
  exact Iff.rfl

/-- Settles O24: the limited broadcast, and the one broadcast of each class network. -/
theorem broadcastFormsAtMostFour : Obligations.BroadcastFormsAtMostFour := by
  intro a host
  rw [isBcast_iff_limited_or_class, isClassBcast_iff_eq, isClassBcast_iff_eq, isClassBcast_iff_eq]
  exact Iff.rfl

/-! ### The class of an address (41_classifier R152): an equation per test, under the failure of those before it -/

theorem classify_unicast {dst host : Word} (h : dst = host) : classify dst host = .unicast := if_pos h

theorem classify_unspecified {dst host : Word} (hhost : dst ≠ host) (h : dst = 0#32) :
    classify dst host = .unspecified := by
  rw [classify, if_neg hhost]
  exact if_pos h

theorem classify_broadcast {dst host : Word} (hhost : dst ≠ host) (hzero : dst ≠ 0#32) (h : bcastForm dst host) :
    classify dst host = .broadcast := by
  rw [classify, if_neg hhost, Config.addrUnspecified, if_neg hzero]
  exact if_pos ((isBcast_iff_bcastForm dst host).mpr h)

/-- Past the first three tests only the all-hosts address is left to pass. -/
theorem classify_of_not_broadcast {dst host : Word} (hhost : dst ≠ host) (hzero : dst ≠ 0#32)
    (hbcast : ¬ bcastForm dst host) : classify dst host = if dst = 0xE0000001#32 then .multicast else .notForUs := by
  have htest : ¬ isBcast dst host = true := (isBcast_iff_bcastForm dst host).not.mpr hbcast
  rw [classify, if_neg hhost, Config.addrUnspecified, if_neg hzero, if_neg htest, Config.addrAllHosts]

/-- An address fails the four tests exactly where RX_PARSE step 5 does not let it pass (42_receive R175). -/
theorem classify_eq_notForUs_iff (dst host : Word) : classify dst host = .notForUs ↔ ¬ forUs dst host := by
  unfold forUs
  by_cases hhost : dst = host
  · rw [classify_unicast hhost]
    simp [hhost]
  by_cases hzero : dst = 0#32
  · rw [classify_unspecified hhost hzero]
    simp [hzero]
  by_cases hbcast : bcastForm dst host
  · rw [classify_broadcast hhost hzero hbcast]
    simp [hbcast]
  · rw [classify_of_not_broadcast hhost hzero hbcast]
    simp [hhost, hzero, hbcast]

/-! ### The operations -/

/-- The end of an operation with a result: RES0 holds it, STATUS is SUCCESS, all else stands (30_encoding R100). -/
theorem finishWith_next (v : Word) (s : State) :
    finishWith v s = .next { s with res0 := v, held := { s.held with res0 := true }, status := 0x00#8 } := rfl

/-- Settles O25: with its operands the operation is its writes, and each clause is one test's equation. -/
theorem classifyResult : Obligations.ClassifyResult := by
  refine ⟨rfl, fun s code h0 h1 h2 hclause => ?_⟩
  have hcode : classCode (classify s.op0 s.op1) = code := by
    obtain ⟨hhost, rfl⟩ | ⟨hhost, hzero, rfl⟩ | ⟨hhost, hzero, hbcast, rfl⟩ | ⟨hhost, hbcast, hall, rfl⟩ |
      ⟨hnot, rfl⟩ := hclause
    · rw [classify_unicast hhost, classCode]
    · rw [classify_unspecified hhost hzero, classCode]
    · rw [classify_broadcast hhost hzero hbcast, classCode]
    · have hzero : s.op0 ≠ 0#32 := by rw [hall]; decide
      rw [classify_of_not_broadcast hhost hzero hbcast, if_pos hall, classCode]
    · rw [(classify_eq_notForUs_iff s.op0 s.op1).mpr hnot, classCode]
  change execClassify s = _
  rw [execClassify_of_held h0 h1 h2, hcode, finishWith_next]

/-- Settles O26: with its operands the operation is its writes, and its test is `bcastForm`. -/
theorem isBcastResult : Obligations.IsBcastResult := by
  refine ⟨rfl, fun s r h0 h1 hclause => ?_⟩
  have hresult : boolWord (isBcast s.op0 s.op1) = r := by
    obtain ⟨hbcast, rfl⟩ | ⟨hbcast, rfl⟩ := hclause
    · exact if_pos ((isBcast_iff_bcastForm s.op0 s.op1).mpr hbcast)
    · exact if_neg ((isBcast_iff_bcastForm s.op0 s.op1).not.mpr hbcast)
  change execIsBcast s = _
  rw [execIsBcast_of_held h0 h1, hresult, finishWith_next]

/-- Settles O27: with its operands the operation is its writes, and its test compares the masked difference with 0. -/
theorem sameSubnetResult : Obligations.SameSubnetResult := by
  refine ⟨rfl, fun s h0 h1 h2 => ?_⟩
  have hresult : boolWord (sameSubnet s.op0 s.op1 s.op2) =
      if (s.op0 ^^^ s.op1) &&& s.op2 = 0#32 then 1#32 else 0#32 := by
    simp only [boolWord, sameSubnet, beq_iff_eq]
  change execSameSubnet s = _
  rw [execSameSubnet_of_held h0 h1 h2, hresult, finishWith_next]

end Sys2Proof.Machine
end

section
/-! PROOFS. The receive pipeline's outcomes (42_receive R171 to R184): each link call is an equation where its range lies in
the frame and a refusal where it does not, so that steps 1 and 2 give the statements' `loadedState`, steps 3 to 9 are an
equation for each test, and every end of the pipeline is `endsAs`. -/

namespace Sys2Proof.Machine

open Sys2Proof.Claims

variable {s u : State} {f : List Byte} {n : Nat}

/-! ### The receive-side calls (45_interfaces R253 to R256) -/

/-- The `n` bytes ahead have been summed: CSUM_ACC holds the folded sum, and the call is recorded. -/
def summedState (s : State) (f : List Byte) (n : Nat) (seed : Half) : State :=
  { s with
    csumAcc := BitVec.ofNat 32 (fold (accumulate (ahead s f n) seed)), held := { s.held with acc := true },
    trace := s.trace ++ [.linkComputeRxChecksum n seed (csum (ahead s f n) seed)] }

/-- The `n` bytes ahead have been read: RP is past them, and the call is recorded. -/
def readState (s : State) (f : List Byte) (n : Nat) : State :=
  { s with mem := { s.mem with rp := s.mem.rp + n }, trace := s.trace ++ [.linkReadBlock n (ahead s f n)] }

/-- `n` bytes have been dumped: RP is past them, and the call is recorded. -/
def dumpedState (s : State) (n : Nat) : State :=
  { s with mem := { s.mem with rp := s.mem.rp + n }, trace := s.trace ++ [.linkDump n] }

/-- Bytes inside the frame are summed where they stand. -/
theorem callRxChecksum_of_le (hf : s.mem.rxf = some f) (h : s.mem.rp + n ≤ f.length) (seed : Half) :
    callRxChecksum n seed s = .next (csum (ahead s f n) seed, summedState s f n seed) := by
  rw [callRxChecksum, rxRange_of_le hf h, andThen_next]
  rfl

/-- With no current frame nothing is summed (20_memory R74). -/
theorem callRxChecksum_of_none (h : s.mem.rxf = none) (n : Nat) (seed : Half) :
    callRxChecksum n seed s = .refused .rxNoFrame := by
  rw [callRxChecksum, rxRange_of_none h, andThen_refused]

/-- Past the end of the frame nothing is summed (20_memory R74). -/
theorem callRxChecksum_of_lt (hf : s.mem.rxf = some f) (h : f.length < s.mem.rp + n) (seed : Half) :
    callRxChecksum n seed s = .refused .rxOutOfRange := by
  rw [callRxChecksum, rxRange_of_lt hf h, andThen_refused]

/-- Bytes inside the frame are read, and RP moves past them. -/
theorem callReadBlock_of_le (hf : s.mem.rxf = some f) (h : s.mem.rp + n ≤ f.length) :
    callReadBlock n s = .next (ahead s f n, readState s f n) := by
  rw [callReadBlock, rxRange_of_le hf h, andThen_next]
  rfl

/-- Bytes inside the frame are dumped. -/
theorem callDump_of_le (hf : s.mem.rxf = some f) (h : s.mem.rp + n ≤ f.length) :
    callDump n s = .next (dumpedState s n) := by
  rw [callDump, rxRange_of_le hf h, andThen_next]
  rfl

/-- Past the end of the frame nothing is dumped (20_memory R74). -/
theorem callDump_of_lt (hf : s.mem.rxf = some f) (h : f.length < s.mem.rp + n) :
    callDump n s = .refused .rxOutOfRange := by
  rw [callDump, rxRange_of_lt hf h, andThen_refused]

/-! ### Every exit (42_receive R184) -/

/-- The exit of the pipeline: HDR_VALID is cleared, then the status that was returned is written. -/
def finishReceive (r : Ended) : Result State := .next (setStatus r.2 (closeHeader r.1))

/-- RX_PARSE and the IPv4 frame type are the steps and the exit. -/
theorem exec_of_receives {i : Instr} (hi : receives i) (s : State) :
    exec i s = andThen (parseHeader s) finishReceive := by
  have hbody : exec i s = andThen (rxParseBody s) finishEnded := by
    obtain rfl | rfl := hi
    · rfl
    · rfl
  rw [hbody, rxParseBody, andThen_assoc]
  rfl

/-- A protocol arm by itself is the arm, on the payload of the loaded header, and the exit (log 10). -/
theorem protocolArm_eq (arm : Nat → State → Result Ended) (h : s.hdrValid = true) :
    protocolArm arm s = andThen (payloadLength s.hdr) fun n => andThen (arm n s) finishReceive :=
  protocolArm_of_loaded h

/-- At the exit only STATUS and the HDR_* registers are written. -/
theorem endsAs_exit (st : Status) (u : State) : endsAs u (statusCode st) (setStatus st (closeHeader u)) := by
  refine ⟨setStatus_status _ _, (setStatus_hdrValid _ _).trans (closeHeader_hdrValid u), ?_⟩
  unfold closeHeader
  split
  · rfl
  · rfl

/-- An operation that leaves the pipeline in state `u` with a status ends with that status. -/
theorem ends_of_exit {o : Result State} {st : Status} (h : o = finishReceive (u, st)) :
    ∃ t, o = .next t ∧ endsAs u (statusCode st) t :=
  ⟨_, h, endsAs_exit st u⟩

/-- The same of the steps of the pipeline. -/
theorem exec_ends_of_parseHeader {i : Instr} {st : Status} (hi : receives i) (h : parseHeader s = .next (u, st)) :
    ∃ t, exec i s = .next t ∧ endsAs u (statusCode st) t :=
  ends_of_exit (by rw [exec_of_receives hi, h, andThen_next])

/-- What the steps refuse the operation refuses. -/
theorem exec_refused_of_parseHeader {i : Instr} {r : Refusal} (hi : receives i) (h : parseHeader s = .refused r) :
    exec i s = .refused r := by
  rw [exec_of_receives hi, h, andThen_refused]

/-! ### Steps 1 and 2 (42_receive R171, R172) -/

/-- Steps 1 and 2, with the constants written out. -/
theorem parseHeader_eq (s : State) :
    parseHeader s = andThen (callRxChecksum 20 0#16 s) fun c =>
      if c.1 ≠ 0#16 then .next (c.2, .checksumInvalid)
      else andThen (callReadBlock 20 c.2) fun b =>
        validateHeader s.cfgAddr (openHeader (loadHeader b.1) b.2) := rfl

/-- Step 1 with no current frame. -/
theorem parseHeader_of_none (h : s.mem.rxf = none) : parseHeader s = .refused .rxNoFrame := by
  rw [parseHeader_eq, callRxChecksum_of_none h, andThen_refused]

/-- Step 1 with fewer than 20 bytes ahead. -/
theorem parseHeader_of_lt (hf : s.mem.rxf = some f) (h : f.length < s.mem.rp + 20) :
    parseHeader s = .refused .rxOutOfRange := by
  rw [parseHeader_eq, callRxChecksum_of_lt hf h, andThen_refused]

/-- Step 1 with a header that does not sum to zero. -/
theorem parseHeader_of_bad_sum (hf : s.mem.rxf = some f) (h : s.mem.rp + 20 ≤ f.length)
    (hc : csum (ahead s f 20) 0#16 ≠ 0#16) :
    parseHeader s = .next (summedState s f 20 0#16, .checksumInvalid) := by
  rw [parseHeader_eq, callRxChecksum_of_le hf h, andThen_next, if_pos hc]

/-- A header that sums to zero is read and loaded (R172). -/
theorem openHeader_readState (hc : csum (ahead s f 20) 0#16 = 0#16) :
    openHeader (loadHeader (ahead s f 20)) (readState (summedState s f 20 0#16) f 20) =
      loadedState s (ahead s f 20) := by
  have htrace : (readState (summedState s f 20 0#16) f 20).trace = (loadedState s (ahead s f 20)).trace := by
    simp only [readState, summedState, loadedState, hc, List.append_assoc, List.singleton_append]
    rfl
  change { loadedState s (ahead s f 20) with trace := (readState (summedState s f 20 0#16) f 20).trace } = _
  rw [htrace]

/-- The later steps begin in `loadedState`. -/
theorem parseHeader_of_sum (hf : s.mem.rxf = some f) (h : s.mem.rp + 20 ≤ f.length)
    (hc : csum (ahead s f 20) 0#16 = 0#16) :
    parseHeader s = validateHeader s.cfgAddr (loadedState s (ahead s f 20)) := by
  rw [parseHeader_eq, callRxChecksum_of_le hf h, andThen_next, if_neg (not_not_intro hc),
    callReadBlock_of_le (s := summedState s f 20 0#16) hf h, andThen_next, ← openHeader_readState hc]
  rfl

/-! ### Steps 3 to 8 (42_receive R173 to R178): an equation per test, under the success of those before it -/

section Tests
variable {host : Word}

theorem validateHeader_wrongVersion (h : u.hdr.version ≠ 4#4) :
    validateHeader host u = .next (u, .wrongVersion) := by
  rw [validateHeader_eq, if_pos h]

theorem validateHeader_sourceSpoofed (hv : u.hdr.version = 4#4) (h : u.hdr.src = 0xFFFFFFFF#32) :
    validateHeader host u = .next (u, .sourceSpoofed) := by
  rw [validateHeader_eq, if_neg (not_not_intro hv), if_pos h]

theorem validateHeader_destinationMismatch (hv : u.hdr.version = 4#4) (hs : u.hdr.src ≠ 0xFFFFFFFF#32)
    (h : ¬ forUs u.hdr.dst host) : validateHeader host u = .next (u, .destinationMismatch) := by
  rw [validateHeader_eq, if_neg (not_not_intro hv), if_neg hs, if_pos ((classify_eq_notForUs_iff _ _).mpr h)]

variable (hv : u.hdr.version = 4#4) (hs : u.hdr.src ≠ 0xFFFFFFFF#32) (hd : forUs u.hdr.dst host)
include hv hs hd

/-- Past the tests of the addresses the header length decides. -/
theorem validateHeader_of_forUs :
    validateHeader host u =
      if u.hdr.ihl.toNat < 5 then .next (u, .malformedHeader)
      else if 5 < u.hdr.ihl.toNat then
        andThen (callDump (u.hdr.ihl.toNat * 4 - 20) u) fun t => .next (t, .optionsUnsupported)
      else dispatchProtocol u := by
  have hclass : ¬ classify u.hdr.dst host = .notForUs := fun e => (classify_eq_notForUs_iff _ _).mp e hd
  rw [validateHeader_eq, if_neg (not_not_intro hv), if_neg hs, if_neg hclass]
  rfl

theorem validateHeader_malformedHeader (h : u.hdr.ihl.toNat < 5) :
    validateHeader host u = .next (u, .malformedHeader) := by
  rw [validateHeader_of_forUs hv hs hd, if_pos h]

theorem validateHeader_options (h : 5 < u.hdr.ihl.toNat) :
    validateHeader host u =
      andThen (callDump (u.hdr.ihl.toNat * 4 - 20) u) fun t => .next (t, .optionsUnsupported) := by
  rw [validateHeader_of_forUs hv hs hd, if_neg (by omega), if_pos h]

theorem validateHeader_dispatches (h : u.hdr.ihl = 5#4) : validateHeader host u = dispatchProtocol u := by
  rw [validateHeader_of_forUs hv hs hd, h, if_neg (by decide), if_neg (by decide)]

end Tests

/-! ### Step 9 (42_receive R179) -/

/-- The payload is what the total length leaves after the header. -/
theorem payloadLength_of_eq {h : Header} (hn : h.len.toNat = h.ihl.toNat * 4 + n) : payloadLength h = .next n := by
  rw [payloadLength_eq_next, headerLength]
  omega

/-- A total length below the header length has no meaning (93 U1). -/
theorem payloadLength_of_lt {h : Header} (hn : h.len.toNat < h.ihl.toNat * 4) :
    payloadLength h = .refused .totalLengthBelowHeader := if_pos hn

theorem dispatchProtocol_icmp (h : u.hdr.proto = 1#8) :
    dispatchProtocol u = andThen (payloadLength u.hdr) fun n => icmpArm n u := by
  simp only [dispatchProtocol, (decodeProto_eq_some_iff _ .protoIcmp).mpr (.inl ⟨h, rfl⟩)]

theorem dispatchProtocol_tcp (h : u.hdr.proto = 6#8) :
    dispatchProtocol u = andThen (payloadLength u.hdr) fun n => tcpArm n u := by
  simp only [dispatchProtocol, (decodeProto_eq_some_iff _ .protoTcp).mpr (.inr ⟨h, rfl⟩)]

theorem dispatchProtocol_other (h1 : u.hdr.proto ≠ 1#8) (h6 : u.hdr.proto ≠ 6#8) :
    dispatchProtocol u = andThen (payloadLength u.hdr) fun n => discardArm n u := by
  have hnone : decodeProto u.hdr.proto = none := by
    rw [decodeProto, Config.protoIcmp, if_neg h1, Config.protoTcp, if_neg h6]
  simp only [dispatchProtocol, hnone]

/-- A total length below the header length stops the dispatch before any arm. -/
theorem dispatchProtocol_of_length_lt (h : u.hdr.len.toNat < u.hdr.ihl.toNat * 4) :
    dispatchProtocol u = .refused .totalLengthBelowHeader := by
  rw [dispatchProtocol, payloadLength_of_lt h, andThen_refused]

/-- A payload past the end of the frame is refused by the dump and by both sums; the ICMP arm makes none for a datagram to
`0.0.0.0`. -/
theorem dispatchProtocol_of_payload_lt (hf : u.mem.rxf = some f) (hn : u.hdr.len.toNat = u.hdr.ihl.toNat * 4 + n)
    (hlt : f.length < u.mem.rp + n) (h : u.hdr.proto ≠ 1#8 ∨ u.hdr.dst ≠ 0#32) :
    dispatchProtocol u = .refused .rxOutOfRange := by
  by_cases h1 : u.hdr.proto = 1#8
  · have hdst : u.hdr.dst ≠ 0#32 := h.resolve_left (not_not_intro h1)
    rw [dispatchProtocol_icmp h1, payloadLength_of_eq hn, andThen_next, icmpArm, Config.addrUnspecified, if_neg hdst,
      callRxChecksum_of_lt hf hlt, andThen_refused]
  by_cases h6 : u.hdr.proto = 6#8
  · rw [dispatchProtocol_tcp h6, payloadLength_of_eq hn, andThen_next, tcpArm,
      callRxChecksum_of_lt (s := setAcc _ u) hf hlt, andThen_refused]
  · rw [dispatchProtocol_other h1 h6, payloadLength_of_eq hn, andThen_next, discardArm, callDump_of_lt hf hlt,
      andThen_refused]

/-! ### The statements -/

/-- Settles O29: step 1 ends the operation, and with HDR_VALID at 0 the exit writes STATUS only. -/
theorem rxRejectsBadHeaderSum : Obligations.RxRejectsBadHeaderSum := by
  intro i s f hi hvalid hf hle hc
  have hclosed : closeHeader (summedState s f 20 0#16) = summedState s f 20 0#16 :=
    if_neg (by rw [summedState, hvalid]; decide)
  rw [exec_of_receives hi, parseHeader_of_bad_sum hf hle hc, andThen_next, finishReceive, hclosed]
  rfl

/-- Settles O30: each clause is the equation of the first test that fails, in the loaded state. -/
theorem rxRejectionOrder : Obligations.RxRejectionOrder := by
  intro i s f code hi hf hle hc h hclause
  have hparse := parseHeader_of_sum hf hle hc
  obtain ⟨hv, rfl⟩ | ⟨hv, hs, rfl⟩ | ⟨hv, hs, hd, rfl⟩ | ⟨hv, hs, hd, hihl, rfl⟩ := hclause
  · exact exec_ends_of_parseHeader hi (hparse.trans (validateHeader_wrongVersion hv))
  · exact exec_ends_of_parseHeader hi (hparse.trans (validateHeader_sourceSpoofed hv hs))
  · exact exec_ends_of_parseHeader hi (hparse.trans (validateHeader_destinationMismatch hv hs hd))
  · exact exec_ends_of_parseHeader hi (hparse.trans (validateHeader_malformedHeader hv hs hd hihl))

/-- Settles O31: the loaded state's read pointer is past 20 bytes, and the dump takes the rest of the header. -/
theorem rxSkipsOptions : Obligations.RxSkipsOptions := by
  intro i s f hi hf h hle hc hv hs hd hihl u
  have hparse := parseHeader_of_sum hf (by omega) hc
  have hend : u.mem.rp + (h.ihl.toNat * 4 - 20) = s.mem.rp + h.ihl.toNat * 4 := by
    change s.mem.rp + 20 + _ = _
    omega
  have hdump := callDump_of_le (s := u) (n := h.ihl.toNat * 4 - 20) hf (by omega)
  have hvalidate : validateHeader s.cfgAddr u = .next (dumpedState u (h.ihl.toNat * 4 - 20), .optionsUnsupported) := by
    rw [validateHeader_options hv hs hd hihl]
    exact congrArg (andThen · _) hdump
  rw [← hend]
  exact exec_ends_of_parseHeader hi (hparse.trans hvalidate)

/-- Settles O32: past the tests RX_PARSE is the dispatch in the loaded state, which is what the arm by itself is there. -/
theorem rxDispatchesProtocol : Obligations.RxDispatchesProtocol := by
  intro i s f hi hf hle hc h hv hs hd hihl
  have hexec : exec i s = andThen (dispatchProtocol (loadedState s (ahead s f 20))) finishReceive := by
    rw [exec_of_receives hi, parseHeader_of_sum hf hle hc, validateHeader_dispatches hv hs hd hihl]
  refine ⟨fun hp => ?_, fun hp => ?_⟩
  · rw [hexec, dispatchProtocol_icmp hp, andThen_assoc]
    exact (protocolArm_eq icmpArm rfl).symm
  · rw [hexec, dispatchProtocol_tcp hp, andThen_assoc]
    exact (protocolArm_eq tcpArm rfl).symm

/-- Settles O33: the dispatch is the discard arm, whose dump takes the payload. -/
theorem rxDiscardsOtherProtocols : Obligations.RxDiscardsOtherProtocols := by
  intro i s f hi hf h hle hlen hc hv hs hd hihl h1 h6 u
  have hparse := parseHeader_of_sum hf (by omega) hc
  have hend : u.mem.rp + (h.len.toNat - 20) = s.mem.rp + h.len.toNat := by
    change s.mem.rp + 20 + _ = _
    omega
  have hihl4 : h.ihl.toNat * 4 = 20 := by rw [hihl]; rfl
  have hpayload : payloadLength u.hdr = .next (h.len.toNat - 20) :=
    payloadLength_of_eq (by change h.len.toNat = h.ihl.toNat * 4 + _; omega)
  have hvalidate : validateHeader s.cfgAddr u = .next (dumpedState u (h.len.toNat - 20), .success) := by
    rw [validateHeader_dispatches hv hs hd hihl, dispatchProtocol_other h1 h6, hpayload, andThen_next, discardArm,
      callDump_of_le (s := u) hf (by omega), andThen_next]
  rw [← hend]
  exact exec_ends_of_parseHeader hi (hparse.trans hvalidate)

/-- Settles O37: steps 1, 8 and 9 by the range that they look at. -/
theorem rxRefusals : Obligations.RxRefusals := by
  refine fun i s hi => ⟨fun hnone => ?_, fun f hf hlt => ?_, fun f hf hle hc => ?_⟩
  · exact exec_refused_of_parseHeader hi (parseHeader_of_none hnone)
  · exact exec_refused_of_parseHeader hi (parseHeader_of_lt hf hlt)
  intro h hv hs hd
  have hparse := parseHeader_of_sum hf hle hc
  have hihl4 : h.ihl = 5#4 → h.ihl.toNat * 4 = 20 := fun e => by rw [e]; rfl
  refine ⟨fun hihl hlt => ?options, fun hihl hlen => ?length, fun hihl hlen hlt hlooks => ?payload⟩
  all_goals refine exec_refused_of_parseHeader hi (hparse.trans ?_)
  case options =>
    have hpast : f.length < (loadedState s (ahead s f 20)).mem.rp + (h.ihl.toNat * 4 - 20) := by
      change f.length < s.mem.rp + 20 + _
      omega
    rw [validateHeader_options hv hs hd hihl]
    exact congrArg (andThen · _) (callDump_of_lt (s := loadedState s (ahead s f 20)) hf hpast)
  case length =>
    rw [validateHeader_dispatches hv hs hd hihl]
    exact dispatchProtocol_of_length_lt (hlen.trans_eq (hihl4 hihl).symm)
  case payload =>
    have hpast : f.length < (loadedState s (ahead s f 20)).mem.rp + (h.len.toNat - 20) := by
      change f.length < s.mem.rp + 20 + _
      omega
    have hpayload : h.len.toNat = h.ihl.toNat * 4 + (h.len.toNat - 20) := by
      have := hihl4 hihl
      omega
    rw [validateHeader_dispatches hv hs hd hihl]
    exact dispatchProtocol_of_payload_lt hf hpayload hpast hlooks

end Sys2Proof.Machine
end

section
/-! PROOFS. The protocol arms on a loaded header (42_receive R180, R181): an equation per outcome, the hand-off being
whatever the collaborator does before it returns. -/

namespace Sys2Proof.Machine

open Sys2Proof.Claims

variable {s v : State} {f : List Byte} {n : Nat}

/-- A hand-off ends where the collaborator returns. -/
theorem handOff_of_returns {e : Event} (h : collaboratorReturns { s with trace := s.trace ++ [e] } v) :
    handOff e s = .next v := by
  obtain ⟨hnone, rfl⟩ | h := h
  · exact handOff_of_none hnone
  · exact h

/-- A protocol arm by itself ends with the status that the arm returns, in the state that it leaves. -/
theorem protocolArm_ends {arm : Nat → State → Result Ended} {st : Status} (hvalid : s.hdrValid = true)
    (hn : s.hdr.len.toNat = s.hdr.ihl.toNat * 4 + n) (h : arm n s = .next (v, st)) :
    ∃ t, protocolArm arm s = .next t ∧ endsAs v (statusCode st) t :=
  ends_of_exit (by rw [protocolArm_eq arm hvalid, payloadLength_of_eq hn, andThen_next, h, andThen_next])

/-! ### The ICMP arm (42_receive R180) -/

theorem icmpArm_unspecified (h : s.hdr.dst = 0#32) (n : Nat) : icmpArm n s = .next (s, .success) := if_pos h

/-- A datagram to any other address is summed. -/
theorem icmpArm_of_le (hd : s.hdr.dst ≠ 0#32) (hf : s.mem.rxf = some f) (h : s.mem.rp + n ≤ f.length) :
    icmpArm n s =
      if csum (ahead s f n) 0#16 = 0#16 then
        andThen (handOff (.icmpReceive s.hdr) (summedState s f n 0#16)) fun t => .next (t, .success)
      else .next (summedState s f n 0#16, .icmpChecksumInvalid) := by
  rw [icmpArm, Config.addrUnspecified, if_neg hd, callRxChecksum_of_le hf h, andThen_next]
  rfl

/-- Settles O34: the arm's three outcomes. -/
theorem icmpArmOutcomes : Obligations.IcmpArmOutcomes := by
  refine fun s n hvalid hn => ⟨fun hd => ?_, fun f hd hf hle => ⟨fun hc => ?_, fun hc v hv => ?_⟩⟩
  · exact protocolArm_ends hvalid hn (icmpArm_unspecified hd n)
  · exact protocolArm_ends hvalid hn ((icmpArm_of_le hd hf hle).trans (if_neg hc))
  · have hhand : handOff (.icmpReceive s.hdr) (summedState s f n 0#16) = .next v := handOff_of_returns hv
    have harm : icmpArm n s = .next (v, .success) := by
      rw [icmpArm_of_le hd hf hle, if_pos hc, hhand, andThen_next]
    exact protocolArm_ends hvalid hn harm

/-! ### The TCP arm (42_receive R181) -/

/-- A segment is summed on top of the pseudo-header sum, which CSUM_ACC holds only until then. -/
theorem tcpArm_of_le (hf : s.mem.rxf = some f) (h : s.mem.rp + n ≤ f.length) :
    tcpArm n s =
      let seed := phsum s.hdr.proto (BitVec.ofNat 16 n) s.hdr.src s.hdr.dst
      if csum (ahead s f n) seed = 0#16 ∧ s.hdr.dst ≠ 0xFFFFFFFF#32 ∧ s.hdr.dst ≠ 0#32 then
        andThen (handOff (.tcpRecv s.hdr.src n) (summedState s f n seed)) fun t => .next (t, .success)
      else .next (summedState s f n seed, .success) := by
  rw [tcpArm, callRxChecksum_of_le (s := setAcc _ s) hf h, andThen_next]
  rfl

/-- Settles O35: the test of the arm decides between the hand-off and the silent drop. -/
theorem tcpArmOutcomes : Obligations.TcpArmOutcomes := by
  refine fun s n f hvalid hn hf hle => ⟨fun hdrop => ?_, fun hc hlimited hzero v hv => ?_⟩
  · refine protocolArm_ends hvalid hn ((tcpArm_of_le hf hle).trans (if_neg ?_))
    rintro ⟨hc, hlimited, hzero⟩
    exact hdrop.elim (· hc) (·.elim hlimited hzero)
  · have hhand : handOff (.tcpRecv s.hdr.src n)
        (summedState s f n (phsum s.hdr.proto (BitVec.ofNat 16 n) s.hdr.src s.hdr.dst)) = .next v :=
      handOff_of_returns hv
    have harm : tcpArm n s = .next (v, .success) := by
      rw [tcpArm_of_le hf hle]
      dsimp only
      rw [if_pos ⟨hc, hlimited, hzero⟩, hhand, andThen_next]
    exact protocolArm_ends hvalid hn harm

end Sys2Proof.Machine
end

section
/-! PROOFS. What RX_PARSE never hands over (42_receive R186): steps 1 to 8 either reject a header, with a status other than
SUCCESS and no hand-off, or dispatch one of 20 bytes; and the TCP arm drops what is for the limited broadcast address. -/

namespace Sys2Proof.Machine

open Sys2Proof.Claims

variable {s t u : State} {f : List Byte} {r : Ended}

/-- From `s` to `t` the block made calls, none of which hands a datagram over. -/
def HandsNothingOver (s t : State) : Prop :=
  ∃ calls, t.trace = s.trace ++ calls ∧ ∀ e ∈ calls, handsOver e = false

theorem HandsNothingOver.refl (s : State) : HandsNothingOver s s := ⟨[], by simp, by simp⟩

theorem HandsNothingOver.trans (h1 : HandsNothingOver s t) (h2 : HandsNothingOver t u) : HandsNothingOver s u := by
  obtain ⟨c1, ht, hc1⟩ := h1
  obtain ⟨c2, hu, hc2⟩ := h2
  exact ⟨c1 ++ c2, by rw [hu, ht, List.append_assoc], List.forall_mem_append.mpr ⟨hc1, hc2⟩⟩

/-- One call that is no hand-off. -/
theorem HandsNothingOver.of_event {e : Event} (ht : t.trace = s.trace ++ [e]) (he : handsOver e = false) :
    HandsNothingOver s t := ⟨[e], ht, by simpa using he⟩

theorem handsNothingOver_callRxChecksum {n : Nat} {seed : Half} :
    Ensures (callRxChecksum n seed s) fun c => HandsNothingOver s c.2 := by
  refine ⟨fun c e => ?_⟩
  obtain ⟨f, -, -, rfl⟩ := callRxChecksum_eq_next.mp e
  exact .of_event rfl rfl

theorem handsNothingOver_callDump {n : Nat} : Ensures (callDump n s) fun t => HandsNothingOver s t := by
  refine ⟨fun t e => ?_⟩
  obtain ⟨f, -, -, rfl⟩ := callDump_eq_next.mp e
  exact .of_event rfl rfl

/-- Steps 1 and 2 make two calls, to the link layer. -/
theorem handsNothingOver_loadedState (s : State) (hb : List Byte) : HandsNothingOver s (loadedState s hb) :=
  ⟨[.linkComputeRxChecksum 20 0#16 0#16, .linkReadBlock 20 hb], rfl, by simp [handsOver]⟩

/-- A piece of the pipeline that began in state `s` returned a status other than SUCCESS, and handed nothing over. -/
def Rejects (s : State) (r : Ended) : Prop := r.2 ≠ .success ∧ HandsNothingOver s r.1

/-- Steps 3 to 8 reject the header, or its length is 20 bytes and it is dispatched. -/
theorem validateHeader_rejects_or_dispatches {host : Word} (h : validateHeader host s = .next r) :
    Rejects s r ∨ (s.hdr.ihl = 5#4 ∧ dispatchProtocol s = .next r) := by
  rw [validateHeader_eq] at h
  split_ifs at h with hv hs hd hlow hhigh
  case pos | pos | pos | pos => cases h; exact .inl ⟨nofun, .refl s⟩
  case pos =>
    obtain ⟨t, ht, hr⟩ := andThen_eq_next.mp h
    cases hr
    exact .inl ⟨nofun, handsNothingOver_callDump.of_next t ht⟩
  case neg =>
    have hihl : s.hdr.ihl = 5#4 := BitVec.eq_of_toNat_eq (by change _ = 5; omega)
    exact .inr ⟨hihl, h⟩

/-- Steps 1 to 8 reject the header, or it is loaded, its length is 20 bytes and it is dispatched. -/
theorem parseHeader_rejects_or_dispatches (hf : s.mem.rxf = some f) (h : parseHeader s = .next r) :
    Rejects s r ∨
      ((loadHeader (ahead s f 20)).ihl = 5#4 ∧ dispatchProtocol (loadedState s (ahead s f 20)) = .next r) := by
  rcases Nat.lt_or_ge f.length (s.mem.rp + 20) with hlt | hle
  · rw [parseHeader_of_lt hf hlt] at h
    cases h
  by_cases hc : csum (ahead s f 20) 0#16 = 0#16
  · rw [parseHeader_of_sum hf hle hc] at h
    refine (validateHeader_rejects_or_dispatches h).imp_left fun ⟨hst, hcalls⟩ => ⟨hst, ?_⟩
    exact (handsNothingOver_loadedState s _).trans hcalls
  · rw [parseHeader_of_bad_sum hf hle hc] at h
    cases h
    exact .inl ⟨nofun, .of_event rfl rfl⟩

/-- A segment for the limited broadcast address is dropped, whatever its sum (R186 (3)). -/
theorem dispatchProtocol_limited_tcp (hp : s.hdr.proto = 6#8) (hd : s.hdr.dst = 0xFFFFFFFF#32)
    (h : dispatchProtocol s = .next r) : HandsNothingOver s r.1 := by
  rw [dispatchProtocol_tcp hp] at h
  obtain ⟨n, -, harm⟩ := andThen_eq_next.mp h
  obtain ⟨c, hc, -, hr | ⟨-, hlimited, -⟩⟩ := tcpArm_eq_next harm
  · rw [hr]
    exact (handsNothingOver_callRxChecksum (s := setAcc _ s)).of_next c hc
  · exact absurd hd hlimited

/-- SUCCESS is the only status whose code is 0 (60_exceptions R281). -/
theorem statusCode_ne_zero {st : Status} (h : st ≠ .success) : statusCode st ≠ 0x00#8 := by
  cases st with
  | success => exact absurd rfl h
  | _ => decide

/-- Settles O38: the exit keeps the status and the calls of the steps, which reject every header that is not of 20 bytes, and
drop what else the statement names. -/
theorem neverHandedOver : Obligations.NeverHandedOver := by
  intro i s t f hi hf hexec h
  rw [exec_of_receives hi] at hexec
  obtain ⟨r, hparse, ht⟩ := andThen_eq_next.mp hexec
  cases ht
  have hexit : HandsNothingOver r.1 (setStatus r.2 (closeHeader r.1)) := ⟨[], by simp, by simp⟩
  rcases parseHeader_rejects_or_dispatches hf hparse with ⟨hst, hcalls⟩ | ⟨hihl, hdispatch⟩
  · exact ⟨fun _ => statusCode_ne_zero hst, fun _ => hcalls.trans hexit⟩
  · refine ⟨fun hne => absurd hihl hne, fun hnever => ?_⟩
    obtain ⟨hp, hd⟩ := hnever.resolve_left (not_not_intro hihl)
    exact ((handsNothingOver_loadedState s _).trans (dispatchProtocol_limited_tcp hp hd hdispatch)).trans hexit

end Sys2Proof.Machine
end

section
/-! PROOFS. The receive pipeline reads neither CFG_MASK nor CFG_GW (42_receive R188): to put other values there and then
run a piece of it is to run the piece and then put them there. Sequencing composes this, and carries along that no script
is pending, under which a hand-off is its event. -/

namespace Sys2Proof.Machine

open Sys2Proof.Claims

/-- Other values in CFG_MASK and CFG_GW. -/
def reroute (mask gw : Word) (s : State) : State := { s with cfgMask := mask, cfgGw := gw }

/-- A piece of an operation with its result replaced. -/
def mapResult {α β : Type} (g : α → β) (o : Result α) : Result β := andThen o fun a => .next (g a)

@[simp] theorem mapResult_next {α β : Type} (g : α → β) (a : α) : mapResult g (.next a) = .next (g a) := rfl

@[simp] theorem mapResult_refused {α β : Type} (g : α → β) (r : Refusal) :
    mapResult g (.refused r) = .refused r := rfl

/-- Replacing a result goes under sequencing where both parts allow it, the second on what the first can give. -/
theorem andThen_mapResult {α β : Type} {g : α → α} {g' : β → β} {o o' : Result α} {k k' : α → Result β} {Q : α → Prop}
    (ho : o' = mapResult g o) (hQ : Ensures o Q) (hk : ∀ a, Q a → k' (g a) = mapResult g' (k a)) :
    andThen o' k' = mapResult g' (andThen o k) := by
  subst ho
  cases o with
  | next a => exact hk a (ensures_next.mp hQ)
  | fault e => rfl
  | refused r => rfl

/-- The first part may be one that reads what is not changed: a range, a length. -/
theorem andThen_read_mapResult {α β : Type} {g : β → β} {o : Result α} {k k' : α → Result β}
    (hk : ∀ a, k' a = mapResult g (k a)) : andThen o k' = mapResult g (andThen o k) := by
  rw [funext hk, mapResult, andThen_assoc]
  rfl

theorem ite_mapResult {α : Type} {g : α → α} {c : Prop} [Decidable c] {o p o' p' : Result α}
    (ho : o' = mapResult g o) (hp : p' = mapResult g p) : (if c then o' else p') = mapResult g (if c then o else p) := by
  split
  · exact ho
  · exact hp

variable {mask gw : Word} {s : State}

/-- Other values in CFG_MASK and CFG_GW of the state that comes with an answer. -/
def rerouteSnd {α : Type} (mask gw : Word) (r : α × State) : α × State := (r.1, reroute mask gw r.2)

/-- The same of the state that comes with a status. -/
def rerouteEnded (mask gw : Word) (r : Ended) : Ended := (reroute mask gw r.1, r.2)

/-! ### The calls -/

theorem callRxChecksum_reroute (n : Nat) (seed : Half) (s : State) :
    callRxChecksum n seed (reroute mask gw s) = mapResult (rerouteSnd mask gw) (callRxChecksum n seed s) :=
  andThen_read_mapResult (o := rxRange n s.mem) fun _ => rfl

theorem callReadBlock_reroute (n : Nat) (s : State) :
    callReadBlock n (reroute mask gw s) = mapResult (rerouteSnd mask gw) (callReadBlock n s) :=
  andThen_read_mapResult (o := rxRange n s.mem) fun _ => rfl

theorem callDump_reroute (n : Nat) (s : State) :
    callDump n (reroute mask gw s) = mapResult (reroute mask gw) (callDump n s) :=
  andThen_read_mapResult (o := rxRange n s.mem) fun _ => rfl

theorem callReadBlock_scriptsLeft {m : Nat} (hs : ScriptsLeft m s) (n : Nat) :
    Ensures (callReadBlock n s) fun r => ScriptsLeft m r.2 :=
  ensures_andThen_read fun _ => ensures_next.mpr hs

/-- With no script pending a hand-off is its event. -/
theorem handOff_reroute {e : Event} (hs : ScriptsLeft 0 s) :
    handOff e (reroute mask gw s) = mapResult (reroute mask gw) (handOff e s) := by
  have hnone : s.env.handoffs = [] := List.eq_nil_of_length_eq_zero (Nat.le_zero.mp hs)
  rw [handOff_of_none hnone, handOff_of_none (s := reroute mask gw s) hnone]
  rfl

theorem closeHeader_reroute (s : State) : closeHeader (reroute mask gw s) = reroute mask gw (closeHeader s) := by
  unfold closeHeader
  rw [apply_ite (reroute mask gw)]
  rfl

/-! ### The pipeline -/

/-- A hand-off after which the arm ends with SUCCESS. -/
theorem handOff_success_reroute {e : Event} (hs : ScriptsLeft 0 s) :
    (andThen (handOff e (reroute mask gw s)) fun t => .next (t, Status.success)) =
      mapResult (rerouteEnded mask gw) (andThen (handOff e s) fun t => .next (t, Status.success)) := by
  rw [handOff_reroute hs, mapResult, mapResult, andThen_assoc, andThen_assoc]
  rfl

/-- A dump after which the pipeline ends with a status. -/
theorem callDump_status_reroute (n : Nat) (st : Status) (s : State) :
    (andThen (callDump n (reroute mask gw s)) fun t => .next (t, st)) =
      mapResult (rerouteEnded mask gw) (andThen (callDump n s) fun t => .next (t, st)) := by
  rw [callDump_reroute, mapResult, mapResult, andThen_assoc, andThen_assoc]
  rfl

theorem icmpArm_reroute (n : Nat) (hs : ScriptsLeft 0 s) :
    icmpArm n (reroute mask gw s) = mapResult (rerouteEnded mask gw) (icmpArm n s) :=
  ite_mapResult rfl <|
  andThen_mapResult (callRxChecksum_reroute n 0#16 s) (callRxChecksum_scriptsLeft hs n 0#16) fun _ hc =>
  ite_mapResult (handOff_success_reroute hc) rfl

theorem tcpArm_reroute (n : Nat) (hs : ScriptsLeft 0 s) :
    tcpArm n (reroute mask gw s) = mapResult (rerouteEnded mask gw) (tcpArm n s) :=
  andThen_mapResult (callRxChecksum_reroute n _ (setAcc _ s)) (callRxChecksum_scriptsLeft (s := setAcc _ s) hs n _)
    fun _ hc => ite_mapResult (handOff_success_reroute hc) rfl

theorem dispatchProtocol_reroute (hs : ScriptsLeft 0 s) :
    dispatchProtocol (reroute mask gw s) = mapResult (rerouteEnded mask gw) (dispatchProtocol s) := by
  by_cases h1 : s.hdr.proto = 1#8
  · rw [dispatchProtocol_icmp h1, dispatchProtocol_icmp (u := reroute mask gw s) h1]
    exact andThen_read_mapResult fun n => icmpArm_reroute n hs
  by_cases h6 : s.hdr.proto = 6#8
  · rw [dispatchProtocol_tcp h6, dispatchProtocol_tcp (u := reroute mask gw s) h6]
    exact andThen_read_mapResult fun n => tcpArm_reroute n hs
  · rw [dispatchProtocol_other h1 h6, dispatchProtocol_other (u := reroute mask gw s) h1 h6]
    exact andThen_read_mapResult fun n => callDump_status_reroute n .success s

/-- The tests read the loaded header and CFG_ADDR. -/
theorem validateHeader_reroute (host : Word) (hs : ScriptsLeft 0 s) :
    validateHeader host (reroute mask gw s) = mapResult (rerouteEnded mask gw) (validateHeader host s) :=
  ite_mapResult rfl <| ite_mapResult rfl <| ite_mapResult rfl <| ite_mapResult rfl <|
  ite_mapResult (callDump_status_reroute _ _ s) (dispatchProtocol_reroute hs)

theorem parseHeader_reroute (hs : ScriptsLeft 0 s) :
    parseHeader (reroute mask gw s) = mapResult (rerouteEnded mask gw) (parseHeader s) :=
  andThen_mapResult (callRxChecksum_reroute 20 0#16 s) (callRxChecksum_scriptsLeft hs 20 0#16) fun c hc =>
  ite_mapResult rfl <|
  andThen_mapResult (callReadBlock_reroute 20 c.2) (callReadBlock_scriptsLeft hc 20) fun b hb =>
  validateHeader_reroute s.cfgAddr (s := openHeader (loadHeader b.1) b.2) hb

/-- The receive operations with other values in CFG_MASK and CFG_GW. -/
theorem exec_reroute {i : Instr} (hi : receives i) (hs : ScriptsLeft 0 s) :
    exec i (reroute mask gw s) = mapResult (reroute mask gw) (exec i s) := by
  rw [exec_of_receives hi, exec_of_receives hi, parseHeader_reroute hs, mapResult, mapResult, andThen_assoc,
    andThen_assoc]
  refine congrArg (andThen (parseHeader s)) (funext fun r => ?_)
  change Host.Outcome.next (setStatus r.2 (closeHeader (reroute mask gw r.1))) = _
  rw [closeHeader_reroute]
  rfl

/-- Settles O40: the receive operations commute with the change of the two registers. -/
theorem receiveIgnoresMaskAndGateway : Obligations.ReceiveIgnoresMaskAndGateway := by
  intro i s mask gw hi hnone
  have hs : ScriptsLeft 0 s := (congrArg List.length hnone).le
  have hcomm : exec i { s with cfgMask := mask, cfgGw := gw } = mapResult (reroute mask gw) (exec i s) :=
    exec_reroute hi hs
  refine ⟨fun t ht => ?_, fun r hr => ?_⟩
  · rw [hcomm, ht, mapResult_next]
    rfl
  · rw [hcomm, hr, mapResult_refused]

end Sys2Proof.Machine
end

section
/-! PROOFS. TX_START (43_transmit R200 to R207): one equation for each way through the operation (refused, broadcast,
cache miss, cache hit), one for each answer of `link.writeStart`, and the datagram that a SUCCESS leaves to be sent. -/

namespace Sys2Proof.Machine

open Sys2Proof.Claims

variable {s : State}

/-! ### The ways through TX_START -/

/-- The model's test is the negation of the statements' predicate (43_transmit R201). -/
theorem txRefuses_eq_true_iff (s : State) (protocol : Byte) :
    txRefuses s.cfgAddr protocol = true ↔ ¬ mayStart s protocol := by
  simp only [txRefuses, mayStart, Config.addrUnspecified, Config.addrLoopback, Bool.or_eq_true, Bool.and_eq_true,
    beq_iff_eq, Bool.not_eq_true', not_and_or, not_or, not_not, Bool.not_eq_true]

/-- The model's resolution target is the statements' (43_transmit R203). -/
theorem nextHop_eq_hop (s : State) (dest : Word) : nextHop dest s.cfgAddr s.cfgMask s.cfgGw = hop s dest := by
  simp only [nextHop, hop, sameSubnet, beq_iff_eq]

/-- What TX_START does with the neighbor cache's answer about `hop`, in the state after the lookup (43_transmit R204). -/
def startFromLookup (hop host dest : Word) (protocol : Byte) : Option LinkAddr × State → Result State
  | (none, u) => raiseStatus .resolutionPending (callRequest hop u).2
  | (some target, u) => emitTemplate target host dest protocol u

/-- With its operands TX_START is the test of the host address, and behind it the search for the link target. -/
theorem execTxStart_of_held (h0 : s.held.op0 = true) (h1 : s.held.op1 = true) :
    execTxStart s =
      if txRefuses s.cfgAddr (low8 s.op1) then raiseStatus .txRefused (setTxActive false s)
      else if isBcast s.op0 s.cfgAddr then
        emitTemplate Config.linkBcast s.cfgAddr s.op0 (low8 s.op1) (setTxActive false s)
      else
        startFromLookup (hop s s.op0) s.cfgAddr s.op0 (low8 s.op1) (callLookup (hop s s.op0) (setTxActive false s)) := by
  rw [execTxStart, operand0_of_held h0, andThen_next, operand1_of_held h1, andThen_next, ← nextHop_eq_hop]
  dsimp only
  obtain ⟨answer, u⟩ := callLookup (nextHop s.op0 s.cfgAddr s.cfgMask s.cfgGw) (setTxActive false s)
  cases answer <;> rfl

theorem execTxStart_refused (h0 : s.held.op0 = true) (h1 : s.held.op1 = true) (hm : ¬ mayStart s (low8 s.op1)) :
    execTxStart s = raiseStatus .txRefused (setTxActive false s) := by
  rw [execTxStart_of_held h0 h1, if_pos ((txRefuses_eq_true_iff ..).mpr hm)]

theorem execTxStart_broadcast (h0 : s.held.op0 = true) (h1 : s.held.op1 = true) (hm : mayStart s (low8 s.op1))
    (hb : bcastForm s.op0 s.cfgAddr) :
    execTxStart s = emitTemplate 0xFFFFFFFFFFFF#48 s.cfgAddr s.op0 (low8 s.op1) (setTxActive false s) := by
  rw [execTxStart_of_held h0 h1, if_neg (mt (txRefuses_eq_true_iff ..).mp (not_not.mpr hm)),
    if_pos ((isBcast_iff_bcastForm ..).mpr hb)]
  rfl

theorem execTxStart_lookup (h0 : s.held.op0 = true) (h1 : s.held.op1 = true) (hm : mayStart s (low8 s.op1))
    (hb : ¬ bcastForm s.op0 s.cfgAddr) :
    execTxStart s =
      startFromLookup (hop s s.op0) s.cfgAddr s.op0 (low8 s.op1) (callLookup (hop s s.op0) (setTxActive false s)) := by
  rw [execTxStart_of_held h0 h1, if_neg (mt (txRefuses_eq_true_iff ..).mp (not_not.mpr hm)),
    if_neg (mt (isBcast_iff_bcastForm ..).mp hb)]

/-- The state in which the link target is known: the lookup, if there was one, is made. -/
def resolvedState (s : State) (env : Env) (calls : List Event) : State :=
  { s with txActive := false, env := env, trace := s.trace ++ calls }

/-- Both ways to a link target go on with the template (43_transmit R202, R203). -/
theorem execTxStart_of_resolves {target : LinkAddr} {env : Env} {calls : List Event} (h0 : s.held.op0 = true)
    (h1 : s.held.op1 = true) (hm : mayStart s (low8 s.op1)) (hr : resolves s s.op0 target env calls) :
    execTxStart s = emitTemplate target s.cfgAddr s.op0 (low8 s.op1) (resolvedState s env calls) := by
  obtain ⟨hb, rfl, rfl, rfl⟩ | ⟨hb, rest, hl, rfl, rfl⟩ := hr
  · rw [execTxStart_broadcast h0 h1 hm hb, resolvedState, List.append_nil]
    rfl
  · rw [execTxStart_lookup h0 h1 hm hb, callLookup_listed (s := setTxActive false s) hl]
    rfl

/-- The lookup takes no answer of `link.writeStart`. -/
theorem resolves_writeStart {dest : Word} {target : LinkAddr} {env : Env} {calls : List Event}
    (hr : resolves s dest target env calls) : env.writeStart = s.env.writeStart := by
  obtain ⟨_, _, rfl, _⟩ | ⟨_, _, _, rfl, _⟩ := hr
  · rfl
  · rfl

/-! ### The template (43_transmit R205, R206) -/

/-- Bytes appended to TX space by calls. -/
def written (bs : List Byte) (calls : List Event) (s : State) : State :=
  { s with mem := { s.mem with txbuf := s.mem.txbuf ++ bs }, trace := s.trace ++ calls }

theorem written_written (bs bs' : List Byte) (calls calls' : List Event) (s : State) :
    written bs' calls' (written bs calls s) = written (bs ++ bs') (calls ++ calls') s := by
  simp only [written, List.append_assoc]

theorem callWrite8_eq (v : Byte) (s : State) : callWrite8 v s = written [v] [.linkWrite8 v] s := rfl
theorem callWrite16_eq (v : Half) (s : State) : callWrite16 v s = written (be16 v) [.linkWrite16 v] s := rfl
theorem callWrite32_eq (v : Word) (s : State) : callWrite32 v s = written (be32 v) [.linkWrite32 v] s := rfl

/-- The ten writes append the 20 template bytes. -/
theorem writeTemplate_eq (host dest : Word) (protocol : Byte) (s : State) :
    writeTemplate host dest protocol s =
      written (template host dest protocol) (templateWrites host dest protocol) s := by
  have hzero : be16 0#16 = [0x00#8, 0x00#8] := by decide
  have hflags : be16 0x4000#16 = [0x40#8, 0x00#8] := by decide
  simp only [writeTemplate, callWrite8_eq, callWrite16_eq, callWrite32_eq, written_written, Config.txIdent,
    Config.txFlagsFrag, hzero, hflags]
  rfl

/-- The state in which TX_START leaves a datagram, `u` being the state after a successful `link.writeStart`. -/
def emittedState (host dest : Word) (protocol : Byte) (u : State) : State :=
  setStatus .success (setTxActive true (recordTx host dest protocol (releaseLinkTarget
    (written (template host dest protocol) (templateWrites host dest protocol) u))))

/-- The same, register by register. -/
theorem emittedState_eq (host dest : Word) (protocol : Byte) (u : State) :
    emittedState host dest protocol u =
      { u with
        mem := { u.mem with txbuf := u.mem.txbuf ++ template host dest protocol },
        trace := u.trace ++ templateWrites host dest protocol,
        txLinkTarget := Config.freeLinkTarget u.free, free := u.free + 1,
        txSrc := host, txDst := dest, txProto := protocol, txStartPos := 14#16, held := { u.held with tx := true },
        txActive := true, status := 0x00#8 } := by
  simp only [emittedState, setStatus, statusCode, setTxActive, recordTx, releaseLinkTarget, written, Config.linkHdrLen]

theorem emitTemplate_of_started {target : LinkAddr} {host dest : Word} {protocol : Byte} {u : State}
    (h : callWriteStart target 0x0800#16 (setLinkTarget target s) = (true, u)) :
    emitTemplate target host dest protocol s = .next (emittedState host dest protocol u) := by
  rw [emitTemplate, Config.ethertypeIpv4, h]
  dsimp only
  rw [if_pos rfl, writeTemplate_eq]
  rfl

theorem emitTemplate_of_not_started {target : LinkAddr} {host dest : Word} {protocol : Byte} {u : State}
    (h : callWriteStart target 0x0800#16 (setLinkTarget target s) = (false, u)) :
    emitTemplate target host dest protocol s = raiseStatus .linkError (releaseLinkTarget u) := by
  rw [emitTemplate, Config.ethertypeIpv4, h]
  exact if_neg nofun

/-- Settles O41: the first test ends the operation. -/
theorem txStartRefusesUnusableHost : Obligations.TxStartRefusesUnusableHost :=
  fun _ h0 h1 hm => execTxStart_refused h0 h1 hm

/-- Settles O42: the lookup and the request give their listed answers. -/
theorem txStartPendingOnMiss : Obligations.TxStartPendingOnMiss := by
  intro s rest status later h0 h1 hm hb hlookup hrequest
  change execTxStart s = _
  rw [execTxStart_lookup h0 h1 hm hb, callLookup_listed (s := setTxActive false s) hlookup, startFromLookup,
    callRequest_listed (by exact hrequest), raiseStatus, List.append_assoc]
  rfl

/-- Settles O43: the template is not reached, and the link target is given up. -/
theorem txStartLinkError : Obligations.TxStartLinkError := by
  intro s target env calls rest h0 h1 hm hr hw
  obtain ⟨n, buf, hstart, _⟩ := callWriteStart_listed (target := target) (t := 0x0800#16)
    (s := setLinkTarget target (resolvedState s env calls)) ((resolves_writeStart hr).trans hw)
  have hrun := (execTxStart_of_resolves h0 h1 hm hr).trans (emitTemplate_of_not_started hstart)
  simp only [raiseStatus, setStatus, statusCode, releaseLinkTarget, setLinkTarget, resolvedState] at hrun
  exact ⟨_, hrun, rfl⟩

/-- A link header and the template behind it, field by field. -/
theorem started_frame_fields (target : LinkAddr) (other : Nat → Byte) (host dest : Word) (protocol : Byte) :
    let buf := linkHeader target other 0x0800#16 ++ template host dest protocol
    buf.length = 34 ∧ buf.drop 14 = template host dest protocol ∧ buf.take 6 = linkBytes target ∧
      (buf.drop 12).take 2 = [0x08#8, 0x00#8] := by
  obtain ⟨hlength, hfirst, htype⟩ := linkHeader_fields target other 0x0800#16
  refine ⟨?_, List.drop_left' hlength, ?_, ?_⟩
  · rw [List.length_append, hlength]
    rfl
  · rw [List.take_append_of_le_length (by omega), hfirst]
  · rw [List.drop_append_of_le_length (by omega), htype]
    rfl

/-- Settles O44: `writeStart` lays down the link header, and the template and the recording follow. -/
theorem txStartEmitsTemplate : Obligations.TxStartEmitsTemplate := by
  intro s target env calls rest h0 h1 hm hr hw
  obtain ⟨n, buf, hstart, hbuf⟩ := callWriteStart_listed (target := target) (t := 0x0800#16)
    (s := setLinkTarget target (resolvedState s env calls)) ((resolves_writeStart hr).trans hw)
  obtain ⟨other, rfl⟩ := hbuf rfl
  obtain ⟨hlength, htemplate, htarget, htype⟩ :=
    started_frame_fields target other s.cfgAddr s.op0 (s.op1.extractLsb' 0 8)
  have hrun := (execTxStart_of_resolves h0 h1 hm hr).trans (emitTemplate_of_started hstart)
  rw [emittedState_eq] at hrun
  exact ⟨_, hrun, hlength, htemplate, htarget, htype, rfl⟩

end Sys2Proof.Machine
end

section
/-! PROOFS. TX_SEND (43_transmit R208): its two tests, and behind them its two patches with the sum between them as one
equation up to `link.send`, from which the frame sent is read off. -/

namespace Sys2Proof.Machine

open Sys2Proof.Claims

variable {s : State}

/-! ### Calls on TX space -/

/-- An insert below the write pointer is made. -/
theorem callInsert_of_le {bs : List Byte} {o : Nat} (h : o + bs.length ≤ s.mem.wp) :
    callInsert bs o s =
      .next { s with mem := overwrite bs o s.mem, trace := s.trace ++ [.linkInsert bs bs.length o] } :=
  callInsert_eq_next.mpr ⟨h, rfl⟩

/-- An insert past the write pointer is refused (20_memory R74). -/
theorem callInsert_of_lt {bs : List Byte} {o : Nat} (h : s.mem.wp < o + bs.length) :
    callInsert bs o s = .refused .txOutOfRange := by
  rw [callInsert, insertBytes, if_neg (Nat.not_le.mpr h), andThen_refused]

/-- A range below the write pointer is summed. -/
theorem callTxChecksum_of_le {o n : Nat} (seed : Half) (h : o + n ≤ s.mem.wp) :
    callTxChecksum o n seed s = .next (csum ((s.mem.txbuf.drop o).take n) seed,
      { s with
        csumAcc := BitVec.ofNat 32 (foldedSum ((s.mem.txbuf.drop o).take n) seed),
        held := { s.held with acc := true },
        trace := s.trace ++ [.linkComputeTxChecksum o n seed (csum ((s.mem.txbuf.drop o).take n) seed)] }) :=
  callTxChecksum_eq_next.mpr ⟨h, rfl⟩

/-- A range past the write pointer is not summed (20_memory R74). -/
theorem callTxChecksum_of_lt {o n : Nat} (seed : Half) (h : s.mem.wp < o + n) :
    callTxChecksum o n seed s = .refused .txOutOfRange := by
  rw [callTxChecksum, txRange_of_lt h, andThen_refused]

/-! ### Patches -/

theorem length_be16 (v : Half) : (be16 v).length = 2 := rfl

theorem length_patch {buf : List Byte} {o : Nat} (h : o + 2 ≤ buf.length) (v : Half) :
    (patch buf o v).length = buf.length := by
  simp only [patch, List.length_append, List.length_take, List.length_drop, length_be16]
  omega

/-- A patch leaves every byte but its two. -/
theorem getElem?_patch {buf : List Byte} {o : Nat} (h : o + 2 ≤ buf.length) (v : Half) {a : Nat} (h0 : a ≠ o)
    (h1 : a ≠ o + 1) : (patch buf o v)[a]? = buf[a]? :=
  overwrite_txByte_outside (m := ⟨[], none, 0, buf, []⟩) (bs := be16 v) h (by rw [length_be16]; omega)

/-- A patch between two parts of a buffer replaces the two bytes that stand there. -/
theorem patch_append {before : List Byte} {o : Nat} (ho : before.length = o) (b0 b1 : Byte) (after : List Byte)
    (v : Half) : patch (before ++ [b0, b1] ++ after) o v = before ++ be16 v ++ after := by
  have hdrop : (before ++ [b0, b1] ++ after).drop (o + 2) = after := List.drop_left' (by simp [ho])
  rw [patch, hdrop, List.append_assoc before, List.take_left' ho]

/-! ### TX_SEND up to `link.send` -/

/-- What TX_SEND writes as the total length. -/
def totalLength (s : State) : Half := BitVec.ofNat 16 (20 + (low16 s.op0).toNat)

/-- TX_SEND has patched the total length. -/
def lengthInserted (s : State) : State :=
  { s with
    txActive := false, mem := { s.mem with txbuf := lengthPatched s },
    trace := s.trace ++ [.linkInsert (be16 (totalLength s)) 2 (s.txStartPos.toNat + 2)] }

/-- TX_SEND has summed the header. -/
def headerSummed (s : State) : State :=
  { lengthInserted s with
    csumAcc := BitVec.ofNat 32 (foldedSum (summedHeader s) 0#16), held := { s.held with acc := true },
    trace := (lengthInserted s).trace ++
      [.linkComputeTxChecksum s.txStartPos.toNat 20 0#16 (csum (summedHeader s) 0#16)] }

/-- TX_SEND has patched the header checksum, and is about to call `link.send`. -/
def readyToSend (s : State) : State :=
  { headerSummed s with
    mem := { s.mem with txbuf := sentFrame s },
    trace := (headerSummed s).trace ++
      [.linkInsert (be16 (csum (summedHeader s) 0#16)) 2 (s.txStartPos.toNat + 10)] }

/-- TX_SEND from its first patch on. -/
def patchAndSend (s : State) : Result State :=
  andThen (callInsert (be16 (totalLength s)) (s.txStartPos.toNat + 2) (setTxActive false s)) fun s1 =>
  andThen (callTxChecksum s.txStartPos.toNat 20 0#16 s1) fun c =>
  andThen (callInsert (be16 c.1) (s.txStartPos.toNat + 10) c.2) fun s2 =>
    raiseStatus (if (callSend s2).1 then .success else .linkError) (callSend s2).2

/-- The two tests of TX_SEND. -/
theorem execTxSend_of_held (h0 : s.held.op0 = true) :
    execTxSend s =
      if s.txActive = false then .refused .sendWithoutStart
      else if (low16 s.op0).toNat > 65515 then .refused .payloadTooLong
      else patchAndSend s := by
  rw [execTxSend, operand0_of_held h0, andThen_next]
  rfl

/-- A datagram is being built and its length fits 16 bits. -/
theorem execTxSend_of_admitted (h0 : s.held.op0 = true) (ha : s.txActive = true) (hl : (low16 s.op0).toNat ≤ 65515) :
    execTxSend s = patchAndSend s := by
  rw [execTxSend_of_held h0, if_neg (by rw [ha]; nofun), if_neg (Nat.not_lt.mpr hl)]

theorem length_lengthPatched (h : s.txStartPos.toNat + 4 ≤ s.mem.txbuf.length) :
    (lengthPatched s).length = s.mem.txbuf.length := length_patch h _

theorem length_sentFrame (h : s.txStartPos.toNat + 20 ≤ s.mem.txbuf.length) :
    (sentFrame s).length = s.mem.txbuf.length := by
  have hl := length_lengthPatched (s := s) (by omega)
  rw [sentFrame, length_patch (by omega), hl]

/-- The first patch, where TX space reaches over it. -/
theorem callInsert_totalLength (h : s.txStartPos.toNat + 4 ≤ s.mem.txbuf.length) :
    callInsert (be16 (totalLength s)) (s.txStartPos.toNat + 2) (setTxActive false s) = .next (lengthInserted s) :=
  callInsert_of_le (s := setTxActive false s) h

/-- The sum over the header with the length in place. -/
theorem callTxChecksum_header (h : s.txStartPos.toNat + 20 ≤ s.mem.txbuf.length) :
    callTxChecksum s.txStartPos.toNat 20 0#16 (lengthInserted s) =
      .next (csum (summedHeader s) 0#16, headerSummed s) :=
  callTxChecksum_of_le 0#16 (h.trans_eq (length_lengthPatched (by omega)).symm)

/-- The second patch, behind the sum. -/
theorem callInsert_checksum (h : s.txStartPos.toNat + 20 ≤ s.mem.txbuf.length) :
    callInsert (be16 (csum (summedHeader s) 0#16)) (s.txStartPos.toNat + 10) (headerSummed s) =
      .next (readyToSend s) := by
  have hlength := length_lengthPatched (s := s) (by omega)
  have hroom : s.txStartPos.toNat + 10 + 2 ≤ (lengthPatched s).length := by omega
  exact callInsert_of_le (s := headerSummed s) hroom

/-- TX_SEND is its patches and `link.send` (43_transmit R208). -/
theorem execTxSend_of_ready (hs : sendReady s) :
    execTxSend s = .next (setStatus (if (callSend (readyToSend s)).1 then .success else .linkError)
      (callSend (readyToSend s)).2) := by
  obtain ⟨h0, ha, hl, hroom⟩ := hs
  rw [execTxSend_of_admitted h0 ha hl, patchAndSend, callInsert_totalLength (by omega), andThen_next,
    callTxChecksum_header hroom, andThen_next, callInsert_checksum hroom, andThen_next]
  rfl

/-- Settles O45: `link.send` gives the listed answer in the state that the patches leave. -/
theorem txSendResult : Obligations.TxSendResult := by
  intro s ok rest hs hsend
  obtain ⟨n, buf, hcall⟩ := callSend_listed (s := readyToSend s) hsend
  have hrun := execTxSend_of_ready hs
  rw [hcall] at hrun
  refine ⟨_, hrun, rfl, ?_, rfl, rfl, rfl⟩
  cases ok
  all_goals
    simp only [setStatus, readyToSend, headerSummed, lengthInserted, List.append_assoc]
    rfl

/-- What TX_SEND hands to the medium, whatever `link.send` answers. -/
theorem sent_of_execTxSend (hs : sendReady s) {t : State} (h : execTxSend s = .next t) :
    ∃ ok, t.mem.sent = s.mem.sent ++ [(sentFrame s, ok)] := by
  obtain ⟨e, n, buf, hcall, _⟩ := callSend_state (readyToSend s)
  rw [execTxSend_of_ready hs, hcall] at h
  cases h
  exact ⟨_, rfl⟩

/-- Settles O46: the frame sent is TX space under two patches of two bytes. -/
theorem txSendPatchesFourBytes : Obligations.TxSendPatchesFourBytes := by
  intro s t hs h
  obtain ⟨ok, hsent⟩ := sent_of_execTxSend hs h
  obtain ⟨_, _, _, hroom⟩ := hs
  have hlength := length_lengthPatched (s := s) (by omega)
  refine ⟨sentFrame s, ok, hsent, length_sentFrame hroom, fun o h2 h3 h10 h11 => ?_⟩
  calc (sentFrame s)[o]?
      = (lengthPatched s)[o]? := getElem?_patch (by omega) _ h10 h11
    _ = s.mem.txbuf[o]? := getElem?_patch (by omega) _ h2 h3

/-- TX space that does not hold the header is refused: by the first patch, or by the sum. -/
theorem patchAndSend_of_lt (h : s.mem.txbuf.length < s.txStartPos.toNat + 20) :
    patchAndSend s = .refused .txOutOfRange := by
  rw [patchAndSend]
  by_cases h4 : s.txStartPos.toNat + 4 ≤ s.mem.txbuf.length
  · have hsum : (lengthInserted s).mem.wp < s.txStartPos.toNat + 20 := (length_lengthPatched h4).trans_lt h
    rw [callInsert_totalLength h4, andThen_next, callTxChecksum_of_lt 0#16 hsum, andThen_refused]
  · rw [callInsert_of_lt (s := setTxActive false s) (Nat.not_le.mp h4), andThen_refused]

/-- Settles O47: the two tests, and then the room in TX space. -/
theorem txSendRefusals : Obligations.TxSendRefusals := by
  intro s h0
  refine ⟨fun ha => ?_, fun ha hl => ?_, fun ha hl hroom => ?_⟩
  all_goals change execTxSend s = _
  · rw [execTxSend_of_held h0, if_pos ha]
  · rw [execTxSend_of_held h0, if_neg (by rw [ha]; nofun)]
    exact if_pos hl
  · rw [execTxSend_of_admitted h0 ha hl, patchAndSend_of_lt hroom]

end Sys2Proof.Machine
end

section
/-! PROOFS. Start, payload, Send (43_transmit R209): a TX_START that returned SUCCESS leaves a link header and the template,
whose length and checksum the two patches of TX_SEND replace, so that the header sent is one with a stored checksum. -/

namespace Sys2Proof.Machine

open Sys2Proof.Claims

/-! ### What a TX_START that returned SUCCESS leaves -/

/-- A datagram is being built: its operand is held, and TX space is a link header and the template (43_transmit R206). -/
structure Started (host dest : Word) (protocol : Byte) (t : State) : Prop where
  op0_held : t.held.op0 = true
  active : t.txActive = true
  startPos : t.txStartPos = 14#16
  frame : ∃ link, link.length = 14 ∧ t.mem.txbuf = link ++ template host dest protocol

/-- From the link target on, SUCCESS is the answer of `link.writeStart`, not of a failed one. -/
theorem emitTemplate_started {s : State} (h0 : s.held.op0 = true) (target : LinkAddr) (host dest : Word)
    (protocol : Byte) :
    Ensures (emitTemplate target host dest protocol s) fun t => t.status = 0x00#8 → Started host dest protocol t := by
  obtain ⟨e, n, buf, hstate, _, hbuf⟩ := callWriteStart_state target 0x0800#16 (setLinkTarget target s)
  cases hok : (callWriteStart target 0x0800#16 (setLinkTarget target s)).1
  case false =>
    rw [emitTemplate_of_not_started (Prod.ext hok rfl)]
    exact ensures_next.mpr nofun
  case true =>
    obtain ⟨other, rfl⟩ := hbuf hok
    rw [emitTemplate_of_started (Prod.ext hok hstate), ensures_next, emittedState_eq]
    exact fun _ => ⟨h0, rfl, rfl, _, (linkHeader_fields target other 0x0800#16).1, rfl⟩

/-- TX_START answers SUCCESS only where it has written the template (43_transmit R200 to R206). -/
theorem execTxStart_started (s : State) :
    Ensures (execTxStart s) fun t =>
      t.status = 0x00#8 → Started s.cfgAddr s.op0 (low8 s.op1) t := by
  cases h0 : s.held.op0
  case false => rw [execTxStart, operand0_of_not_held h0]; exact ensures_refused ..
  cases h1 : s.held.op1
  case false => rw [execTxStart, operand0_of_held h0, andThen_next, operand1_of_not_held h1]; exact ensures_refused ..
  rw [execTxStart_of_held h0 h1]
  refine ensures_ite (ensures_next.mpr nofun) (ensures_ite (emitTemplate_started (s := setTxActive false s) h0 ..) ?_)
  obtain ⟨e, n, hstate, _⟩ := callLookup_state (hop s s.op0) (setTxActive false s)
  have hheld : (callLookup (hop s s.op0) (setTxActive false s)).2.held.op0 = true := by rw [hstate]; exact h0
  match callLookup (hop s s.op0) (setTxActive false s), hheld with
  | (none, u), _ => exact ensures_next.mpr nofun
  | (some target, u), hu => exact emitTemplate_started hu ..

/-! ### The header under the two patches -/

/-- The 20 header bytes with their total length and checksum (43_transmit R205, R208). -/
def headerWith (length checksum : Half) (host dest : Word) (protocol : Byte) : List Byte :=
  [0x45#8, 0x00#8] ++ be16 length ++ [0x00#8, 0x00#8, 0x40#8, 0x00#8, 0x40#8, protocol] ++ be16 checksum ++
    (be32 host ++ be32 dest)

/-- The template is the header with neither. -/
theorem template_eq_headerWith (host dest : Word) (protocol : Byte) :
    template host dest protocol = headerWith 0#16 0#16 host dest protocol := rfl

section Header

variable {link payload : List Byte} {host dest : Word} {protocol : Byte}

theorem length_be32 (v : Word) : (be32 v).length = 4 := rfl

theorem length_headerWith (length checksum : Half) : (headerWith length checksum host dest protocol).length = 20 := rfl

/-- The frame, cut before and behind the total length. -/
theorem frame_at_length (link payload : List Byte) (length checksum : Half) :
    link ++ headerWith length checksum host dest protocol ++ payload =
      (link ++ [0x45#8, 0x00#8]) ++ be16 length ++
        ([0x00#8, 0x00#8, 0x40#8, 0x00#8, 0x40#8, protocol] ++ be16 checksum ++ (be32 host ++ be32 dest) ++ payload) := by
  simp only [headerWith, List.append_assoc]

/-- The frame, cut before and behind the header checksum. -/
theorem frame_at_checksum (link payload : List Byte) (length checksum : Half) :
    link ++ headerWith length checksum host dest protocol ++ payload =
      (link ++ ([0x45#8, 0x00#8] ++ be16 length ++ [0x00#8, 0x00#8, 0x40#8, 0x00#8, 0x40#8, protocol])) ++
        be16 checksum ++ (be32 host ++ be32 dest ++ payload) := by
  simp only [headerWith, List.append_assoc]

/-- The patch at TX_START_POS + 2 is of the total length. -/
theorem patch_totalLength (hlink : link.length = 14) (length checksum v : Half) :
    patch (link ++ headerWith length checksum host dest protocol ++ payload) 16 v =
      link ++ headerWith v checksum host dest protocol ++ payload := by
  rw [frame_at_length, frame_at_length]
  exact patch_append (by rw [List.length_append, hlink]; rfl) ..

/-- The patch at TX_START_POS + 10 is of the header checksum. -/
theorem patch_headerChecksum (hlink : link.length = 14) (length checksum v : Half) :
    patch (link ++ headerWith length checksum host dest protocol ++ payload) 24 v =
      link ++ headerWith length v host dest protocol ++ payload := by
  rw [frame_at_checksum, frame_at_checksum]
  exact patch_append (by rw [List.length_append, hlink]; rfl) ..

/-- The header bytes of the frame. -/
theorem frame_header (hlink : link.length = 14) (length checksum : Half) :
    ((link ++ headerWith length checksum host dest protocol ++ payload).drop 14).take 20 =
      headerWith length checksum host dest protocol := by
  rw [List.append_assoc, List.drop_left' hlink, List.take_left' (length_headerWith ..)]

/-- The length bytes of the frame. -/
theorem frame_length_bytes (hlink : link.length = 14) (length checksum : Half) :
    ((link ++ headerWith length checksum host dest protocol ++ payload).drop 16).take 2 = be16 length := by
  rw [frame_at_length, List.append_assoc _ (be16 length),
    List.drop_left' (by rw [List.length_append, hlink]; rfl), List.take_left' (length_be16 length)]

/-- What follows the header is the payload. -/
theorem frame_payload (hlink : link.length = 14) (length checksum : Half) :
    (link ++ headerWith length checksum host dest protocol ++ payload).drop 34 = payload :=
  List.drop_left' (by rw [List.length_append, hlink, length_headerWith])

/-- The header with the checksum of itself verifies (40_checksum R139). -/
theorem csum_headerWith (length : Half) :
    csum (headerWith length (csum (headerWith length 0#16 host dest protocol) 0#16) host dest protocol) 0#16 =
      0x0000#16 :=
  storedChecksumVerifies
    ([0x45#8, 0x00#8] ++ be16 length ++ [0x00#8, 0x00#8, 0x40#8, 0x00#8, 0x40#8, protocol])
    (be32 host ++ be32 dest) 0#16 (by simp [length_be16]) (by rw [List.length_append, length_be32, length_be32])
    ((length_headerWith (host := host) (dest := dest) (protocol := protocol) length 0#16).trans_le (by decide))

end Header

/-- The frame that TX_SEND sends when TX space is a link header, the template and a payload. -/
theorem sentFrame_of_template {s : State} {link payload : List Byte} {host dest : Word} {protocol : Byte}
    (hlink : link.length = 14) (hpos : s.txStartPos = 14#16)
    (hbuf : s.mem.txbuf = link ++ template host dest protocol ++ payload) :
    sentFrame s = link ++ headerWith (totalLength s)
      (csum (headerWith (totalLength s) 0#16 host dest protocol) 0#16) host dest protocol ++ payload := by
  have hp : s.txStartPos.toNat = 14 := by rw [hpos]; rfl
  have hlength : lengthPatched s = link ++ headerWith (totalLength s) 0#16 host dest protocol ++ payload := by
    rw [lengthPatched, hbuf, hp, template_eq_headerWith]
    exact patch_totalLength hlink ..
  have hsummed : summedHeader s = headerWith (totalLength s) 0#16 host dest protocol := by
    rw [summedHeader, hlength, hp, frame_header hlink]
  rw [sentFrame, hsummed, hlength, hp]
  exact patch_headerChecksum hlink ..

/-- The payload is written behind the template, and its length is in OP0. -/
def payloadWritten (payload : List Byte) (v : Word) (t : State) : State :=
  { t with op0 := v, mem := { t.mem with txbuf := t.mem.txbuf ++ payload } }

/-- Behind a TX_START that returned SUCCESS TX_SEND is admitted, whatever the payload. -/
theorem sendReady_of_started {host dest : Word} {protocol : Byte} {t : State} (h : Started host dest protocol t)
    (payload : List Byte) {v : Word} (hv : (v.extractLsb' 0 16).toNat ≤ 65515) :
    sendReady (payloadWritten payload v t) := by
  obtain ⟨link, hlink, hbuf⟩ := h.frame
  refine ⟨h.op0_held, h.active, hv, ?_⟩
  have hpos : (payloadWritten payload v t).txStartPos.toNat = 14 := by rw [payloadWritten, h.startPos]; rfl
  have hroom : (payloadWritten payload v t).mem.txbuf.length = 34 + payload.length := by
    rw [payloadWritten, hbuf, List.length_append, List.length_append, hlink]
    rfl
  omega

/-- Settles O48: the frame is the link header, a header with its own checksum, and the payload. -/
theorem transmitRoundTrip : Obligations.TransmitRoundTrip := by
  intro s t payload v hstart hok hv
  have hstarted := (execTxStart_started s).of_next t hstart hok
  have hready := sendReady_of_started hstarted payload hv
  have hsend := execTxSend_of_ready hready
  obtain ⟨ok, hsent⟩ := sent_of_execTxSend hready hsend
  obtain ⟨link, hlink, hbuf⟩ := hstarted.frame
  have hframe := sentFrame_of_template (s := payloadWritten payload v t) hlink hstarted.startPos
    (congrArg (· ++ payload) hbuf)
  refine ⟨_, _, ok, hsend, hsent, ?_⟩
  rw [hframe]
  exact ⟨frame_payload hlink .., frame_length_bytes hlink .., by rw [frame_header hlink, csum_headerWith]⟩

end Sys2Proof.Machine
end

section
/-! PROOFS. What the dispatch of a taken frame keeps, said once for every predicate: its calls read, dump and sum bytes, open
and close the header, and hand over. A predicate that each of these keeps, the dispatch keeps. -/

namespace Sys2Proof.Machine

/-- A predicate that each piece of the receive pipeline keeps. -/
structure KeptByReceive (P : State → Prop) : Prop where
  sum : ∀ (n : Nat) (seed : Half) {s : State}, P s → Ensures (callRxChecksum n seed s) fun c => P c.2
  read : ∀ (n : Nat) {s : State}, P s → Ensures (callReadBlock n s) fun b => P b.2
  dump : ∀ (n : Nat) {s : State}, P s → Ensures (callDump n s) P
  seed : ∀ (a : Nat) {s : State}, P s → P (setAcc a s)
  load : ∀ (h : Header) {s : State}, P s → P (openHeader h s)
  close : ∀ {s : State}, P s → P (closeHeader s)
  handOver : ∀ (e : Event) {s : State}, P s → Ensures (handOff e s) P

section Receive
variable {P : State → Prop} (hP : KeptByReceive P) {s : State} (hs : P s)
include hP hs

theorem icmpArm_keeps (n : Nat) : Ensures (icmpArm n s) fun r => P r.1 :=
  ensures_ite (ensures_next.mpr hs) <|
  ensures_andThen (hP.sum n _ hs) fun _ hc =>
  ensures_ite (ensures_andThen (hP.handOver _ hc) fun _ ht => ensures_next.mpr ht) (ensures_next.mpr hc)

theorem tcpArm_keeps (n : Nat) : Ensures (tcpArm n s) fun r => P r.1 :=
  ensures_andThen (hP.sum n _ (hP.seed _ hs)) fun _ hc =>
  ensures_ite (ensures_andThen (hP.handOver _ hc) fun _ ht => ensures_next.mpr ht) (ensures_next.mpr hc)

theorem dispatchProtocol_keeps : Ensures (dispatchProtocol s) fun r => P r.1 := by
  refine ensures_andThen_read fun n => ?_
  split
  · exact icmpArm_keeps hP hs n
  · exact tcpArm_keeps hP hs n
  · exact ensures_andThen (hP.dump n hs) fun _ ht => ensures_next.mpr ht

theorem validateHeader_keeps (host : Word) : Ensures (validateHeader host s) fun r => P r.1 :=
  ensures_ite (ensures_next.mpr hs) <| ensures_ite (ensures_next.mpr hs) <|
  ensures_ite (ensures_next.mpr hs) <| ensures_ite (ensures_next.mpr hs) <|
  ensures_ite (ensures_andThen (hP.dump _ hs) fun _ ht => ensures_next.mpr ht) (dispatchProtocol_keeps hP hs)

theorem parseHeader_keeps : Ensures (parseHeader s) fun r => P r.1 :=
  ensures_andThen (hP.sum _ _ hs) fun _ hc =>
  ensures_ite (ensures_next.mpr hc) <|
  ensures_andThen (hP.read _ hc) fun _ hb => validateHeader_keeps hP (hP.load _ hb) _

/-- Every frame type has an arm that hands over, is RX_PARSE, or does nothing (44_event_loop R233). -/
theorem dispatchFrame_keeps (t : Half) : Ensures (dispatchFrame t s) fun r => P r.1 := by
  unfold dispatchFrame
  split
  · exact ensures_andThen (hP.handOver _ hs) fun _ ht => ensures_next.mpr ht
  · exact ensures_andThen (parseHeader_keeps hP hs) fun _ hr => ensures_next.mpr (hP.close hr)
  · exact ensures_next.mpr hs

end Receive

/-- No script is pending, and the frames `q` are queued. -/
def IdleWithQueue (q : List (List Byte)) (s : State) : Prop := s.env.handoffs = [] ∧ s.mem.rxq = q

/-- With no script pending a hand-off is its event, and no other piece takes a frame from RXQ. -/
theorem idleWithQueue_keptByReceive (q : List (List Byte)) : KeptByReceive (IdleWithQueue q) where
  sum _ _ _ hs := ensures_andThen_read fun _ => ensures_next.mpr hs
  read _ _ hs := ensures_andThen_read fun _ => ensures_next.mpr hs
  dump _ _ hs := ensures_andThen_read fun _ => ensures_next.mpr hs
  seed _ _ hs := hs
  load _ _ hs := hs
  close {s} hs := by simpa [IdleWithQueue] using hs
  handOver e s hs := by
    rw [handOff_of_none hs.1]
    exact ensures_next.mpr hs

end Sys2Proof.Machine
end

section
/-! PROOFS. FRAME_DEMUX (44_event_loop R232 to R234): with a frame it is an equation, its arm by itself and then the flush,
whatever the arm's collaborator does. -/

namespace Sys2Proof.Machine

open Sys2Proof.Claims

variable {s u : State} {f : List Byte} {rest : List (List Byte)}

/-! ### The frame and its type -/

/-- The type field lies inside the link header. -/
theorem etherTypeOf_take (f : List Byte) : etherTypeOf (f.take 14) = typeField f := by
  simp only [etherTypeOf, half16At, byteAt, typeField, Config.linkTypeOffset, List.getD_eq_getElem?_getD]
  rw [List.getElem?_take_of_lt (by decide), List.getElem?_take_of_lt (by decide)]

/-- The type fields of the two arms (30_encoding R95). -/
theorem dispatchFrame_arp (s : State) : dispatchFrame 0x0806#16 s = arpArm s := rfl

theorem dispatchFrame_ipv4 (s : State) : dispatchFrame 0x0800#16 s = ipv4Arm s := rfl

theorem dispatchFrame_other {t : Half} (harp : t ≠ 0x0806#16) (hipv4 : t ≠ 0x0800#16) (s : State) :
    dispatchFrame t s = .next (s, .success) := by
  rw [dispatchFrame, decodeEtherType, Config.ethertypeArp, Config.ethertypeIpv4, if_neg harp, if_neg hipv4]

/-! ### The result of the event-loop operations (30_encoding R100) -/

/-- The type field stands in the high half, and the three bits count 4, 2 and 1. -/
theorem loopResult_toNat (t : Half) (tcp arp taken : Bool) :
    (loopResult t tcp arp taken).toNat = t.toNat * 65536 + (4 * tcp.toNat + 2 * arp.toNat + taken.toNat) := by
  have append_toNat : ∀ {m n : Nat} (x : BitVec m) (y : BitVec n), (x ++ y).toNat = x.toNat * 2 ^ n + y.toNat := by
    intro m n x y
    rw [BitVec.toNat_append, ← Nat.shiftLeft_add_eq_or_of_lt y.isLt, Nat.shiftLeft_eq]
  simp only [loopResult, append_toNat, BitVec.toNat_ofBool, BitVec.toNat_ofNat]
  omega

theorem loopResult_none : loopResult 0#16 false false false = 0#32 := by decide

theorem loopResult_taken (t : Half) : loopResult t false false true = (t.setWidth 32 <<< 16) + 1#32 := by
  have ht := t.isLt
  refine BitVec.eq_of_toNat_eq ?_
  rw [loopResult_toNat]
  simp only [BitVec.toNat_add, BitVec.toNat_shiftLeft, BitVec.toNat_setWidth, BitVec.toNat_ofNat, Nat.shiftLeft_eq,
    Bool.toNat_false, Bool.toNat_true]
  omega

/-- RES0 of the two steps of a tick, joined. -/
theorem loopResult_or (t : Half) (tcp arp taken : Bool) :
    loopResult t false false taken ||| loopResult 0#16 tcp arp false = loopResult t tcp arp taken := by
  simp only [loopResult]
  rw [BitVec.or_append, BitVec.or_append, BitVec.or_append, BitVec.or_append]
  simp

theorem loopResult_timers (tcp arp : Bool) :
    loopResult 0#16 tcp arp false = (if tcp then 4#32 else 0#32) + (if arp then 2#32 else 0#32) := by
  cases tcp <;> cases arp <;> decide

/-! ### The three ways through FRAME_DEMUX -/

/-- Past the end of the frame nothing is read (20_memory R74). -/
theorem callReadBlock_of_lt {n : Nat} (hf : s.mem.rxf = some f) (h : f.length < s.mem.rp + n) :
    callReadBlock n s = .refused .rxOutOfRange := by
  rw [callReadBlock, rxRange_of_lt hf h, andThen_refused]

/-- A frame shorter than the link header. -/
theorem frameDemuxBody_of_short (h : s.mem.rxq = f :: rest) (hl : f.length < 14) :
    frameDemuxBody s = .refused .rxOutOfRange := by
  rw [frameDemuxBody, h]
  dsimp only
  rw [callReadBlock_of_lt rfl (by simpa [takeFrame, Config.linkHdrLen] using hl), andThen_refused]

/-- A frame is dispatched on its type, and flushed when its arm has ended. -/
theorem frameDemuxBody_of_long (h : s.mem.rxq = f :: rest) (hl : 14 ≤ f.length) :
    frameDemuxBody s = andThen (dispatchFrame (typeField f) (frameTaken s f rest)) fun r =>
      .next ⟨callFlush r.1, true, typeField f, r.2⟩ := by
  rw [frameDemuxBody_of_frame h hl, etherTypeOf_take]
  rfl

/-- The operation writes the result and the status of its body. -/
theorem execFrameDemux_eq (s : State) :
    exec .frameDemux s = andThen (frameDemuxBody s) fun f =>
      .next (setStatus f.status (setRes0 (loopResult f.etherType false false f.taken) f.state)) := rfl

theorem execFrameDemux_of_short (h : s.mem.rxq = f :: rest) (hl : f.length < 14) :
    exec .frameDemux s = .refused .rxOutOfRange := by
  rw [execFrameDemux_eq, frameDemuxBody_of_short h hl, andThen_refused]

/-- The operation ends as the arm by itself does, but for the flush and RES0. -/
theorem execFrameDemux_of_long (h : s.mem.rxq = f :: rest) (hl : 14 ≤ f.length) :
    exec .frameDemux s =
      andThen (andThen (dispatchFrame (typeField f) (frameTaken s f rest)) finishEnded) fun u =>
        .next (frameFlushed u (typeField f)) := by
  rw [execFrameDemux_eq, frameDemuxBody_of_long h hl, andThen_assoc, andThen_assoc]
  refine congrArg (andThen _) (funext fun r => ?_)
  simp only [andThen_next, loopResult_taken]
  rfl

/-! ### The statements -/

/-- Settles O49: `packetReady` is the only call. -/
theorem frameDemuxEmptyQueue : Obligations.FrameDemuxEmptyQueue := by
  intro s h
  rw [execFrameDemux_eq, frameDemuxBody_of_empty h, andThen_next, loopResult_none]
  rfl

/-- Settles O52: the hand-off is all of the arm. -/
theorem arpFrameHandedOver : Obligations.ArpFrameHandedOver := by
  intro s u hu
  change andThen (arpArm s) finishEnded = _
  rw [arpArm, handOff_of_returns hu]
  rfl

/-- Settles O50: the dispatch is the arm by itself, or nothing. -/
theorem frameDemuxDispatchesType : Obligations.FrameDemuxDispatchesType := by
  intro s f rest h hl
  refine ⟨fun ht u hu => ?_, fun ht u hu => ?_, fun harp hipv4 => ?_⟩
  · have harm : andThen (arpArm (frameTaken s f rest)) finishEnded = .next u := hu
    rw [execFrameDemux_of_long h hl, ht, dispatchFrame_arp, harm, andThen_next]
  · have harm : andThen (ipv4Arm (frameTaken s f rest)) finishEnded = .next u := hu
    rw [execFrameDemux_of_long h hl, ht, dispatchFrame_ipv4, harm, andThen_next]
  · rw [execFrameDemux_of_long h hl, dispatchFrame_other harp hipv4]
    rfl

/-- Settles O51: the flush comes after the arm, whatever the arm has left; with no script pending the arm leaves RXQ. -/
theorem frameDemuxAlwaysReleases : Obligations.FrameDemuxAlwaysReleases := by
  intro s t f rest h hexec
  have hl : 14 ≤ f.length := by
    by_contra hshort
    rw [execFrameDemux_of_short h (Nat.not_le.mp hshort)] at hexec
    cases hexec
  rw [execFrameDemux_of_long h hl, andThen_assoc] at hexec
  obtain ⟨r, hr, ht⟩ := andThen_eq_next.mp hexec
  cases ht
  refine ⟨rfl, List.getLast?_concat, fun hnone => ?_⟩
  have htaken : IdleWithQueue rest (frameTaken s f rest) := ⟨hnone, rfl⟩
  exact ((dispatchFrame_keeps (idleWithQueue_keptByReceive rest) htaken _).of_next r hr).2

end Sys2Proof.Machine
end

section
/-! PROOFS. TIMER_SVC, NET_TICK and NET_INIT with no script pending (44_event_loop R230, R235 to R239): each maintenance arm
is an equation, and the tick differs from its separate operations only in the RES0 and STATUS that they write in between,
which the timers do not read. -/

namespace Sys2Proof.Machine

open Sys2Proof.Claims

variable {s : State} {now : Word} {arp tcp : Bool}

/-! ### The timers (44_event_loop R235 to R238) -/

/-- The arms that fired have called their collaborators and taken `now` as their snapshot. -/
def timersServed (now : Word) (arp tcp : Bool) (s : State) : State :=
  { s with
    trace := s.trace ++ (if arp then [.arpUpdate] else []) ++ (if tcp then [.tcpUpdate] else [])
    arpTimer := if arp then now else s.arpTimer
    tcpTimer := if tcp then now else s.tcpTimer }

/-- The statements' `due` decides whether an interval has passed. -/
theorem intervalPassed_eq {snapshot interval : Word} {fired : Bool}
    (h : fired = true ↔ due now snapshot interval.toNat) :
    intervalPassed now snapshot interval = fired :=
  Bool.eq_iff_iff.mpr (intervalPassed_iff.trans h.symm)

/-- An arm fires or it does not. -/
theorem exists_fired (now snapshot : Word) (interval : Nat) :
    ∃ fired : Bool, (fired = true ↔ due now snapshot interval) :=
  ⟨decide (interval ≤ (now - snapshot).toNat), decide_eq_true_iff⟩

theorem arpMaintenance_of_idle (hnone : s.env.handoffs = []) (harp : arp = true ↔ due now s.arpTimer 10) :
    arpMaintenance collaborate now s = .next (timersServed now arp false s, arp) := by
  rw [arpMaintenance, intervalPassed_eq (interval := Config.arpInterval) harp]
  cases arp with
  | false => simp [timersServed]
  | true =>
    rw [if_pos rfl, collaborate_of_none (s := logEvent .arpUpdate s) hnone, andThen_next]
    simp [timersServed, logEvent, setArpTimer]

theorem tcpMaintenance_of_idle (hnone : s.env.handoffs = []) (htcp : tcp = true ↔ due now s.tcpTimer 1) :
    tcpMaintenance collaborate now s = .next (timersServed now false tcp s, tcp) := by
  rw [tcpMaintenance, intervalPassed_eq (interval := Config.tcpInterval) htcp]
  cases tcp with
  | false => simp [timersServed]
  | true =>
    rw [if_pos rfl, collaborate_of_none (s := logEvent .tcpUpdate s) hnone, andThen_next]
    simp [timersServed, logEvent, setTcpTimer]

/-- The transport arm after the neighbor arm. -/
theorem timersServed_timersServed (now : Word) (arp tcp : Bool) (s : State) :
    timersServed now false tcp (timersServed now arp false s) = timersServed now arp tcp s := by
  simp [timersServed]

/-- Both arms are decided by one clock value. -/
theorem timerBody_of_idle {u : State} (ht : s.held.timers = true) (hnone : s.env.handoffs = [])
    (hclock : callClock s = (now, u)) (harp : arp = true ↔ due now s.arpTimer 10)
    (htcp : tcp = true ↔ due now s.tcpTimer 1) :
    timerBody collaborate s = .next ⟨timersServed now arp tcp u, arp, tcp⟩ := by
  obtain ⟨e, n, hu, he⟩ := callClock_state s
  simp only [hclock] at hu
  have hnone' : u.env.handoffs = [] := by rw [hu]; exact he.trans hnone
  have harp' : arp = true ↔ due now u.arpTimer 10 := by rw [hu]; exact harp
  have htcp' : tcp = true ↔ due now (timersServed now arp false u).tcpTimer 1 := by rw [hu]; exact htcp
  simp only [timerBody, readHeld_of_held ht, andThen_next, hclock, arpMaintenance_of_idle hnone' harp',
    tcpMaintenance_of_idle (s := timersServed now arp false u) hnone' htcp', timersServed_timersServed]

theorem execTimerSvc_eq (s : State) :
    exec .timerSvc s = andThen (timerBody collaborate s) fun t =>
      .next (setStatus .success (setRes0 (loopResult 0#16 t.tcp t.arp false) t.state)) := rfl

/-- Settles O53: the clock gives its listed answer. -/
theorem timerSvcResult : Obligations.TimerSvcResult := by
  intro s now rest arp tcp ht hnone hclock harp htcp
  rw [execTimerSvc_eq, timerBody_of_idle ht hnone (callClock_listed hclock) harp htcp, andThen_next, loopResult_timers]
  rfl

/-! ### The tick (44_event_loop R230) -/

/-- What an operation writes at its end, the clock neither reads nor changes. -/
theorem callClock_setStatus_setRes0 (st : Status) (v : Word) (s : State) :
    callClock (setStatus st (setRes0 v s)) = ((callClock s).1, setStatus st (setRes0 v (callClock s).2)) := by
  simp only [callClock, drawClock, setStatus_env, setRes0_env, setStatus_free, setRes0_free]
  cases s.env.clock <;> rfl

/-- Nor do the timer arms. -/
theorem timersServed_setStatus_setRes0 (now : Word) (arp tcp : Bool) (st : Status) (v : Word) (s : State) :
    timersServed now arp tcp (setStatus st (setRes0 v s)) = setStatus st (setRes0 v (timersServed now arp tcp s)) := rfl

/-- The last write of RES0 and of STATUS stands. -/
theorem setStatus_setRes0_overwritten (st st' : Status) (v w x : Word) (s : State) :
    { setStatus st' (setRes0 w (setStatus st (setRes0 v s))) with res0 := x, status := statusCode st } =
      setStatus st (setRes0 x s) := rfl

/-- With no arrival listed the event handler is its event. -/
theorem eventsHandled_none (h : s.env.arrivals = []) :
    eventsHandled s [] [] = { s with trace := s.trace ++ [.linkEventHandler] } := by
  rw [eventsHandled, List.append_nil, ← h]

/-- The listed frames, or none, arrive (45_interfaces R250). -/
theorem callEventHandler_of_nextArrivals {frames : List (List Byte)} {later : List (List (List Byte))}
    (h : nextArrivals s frames later) : callEventHandler s = eventsHandled s frames later := by
  obtain h | ⟨h, rfl, rfl⟩ := h
  · exact callEventHandler_listed h
  · rw [callEventHandler_none h, eventsHandled_none h]

theorem execNetTick_of_nextArrivals {frames : List (List Byte)} {later : List (List (List Byte))}
    (h : nextArrivals s frames later) :
    exec .netTick s = andThen (frameDemuxBody (eventsHandled s frames later)) fun f =>
      andThen (timerBody collaborate f.state) fun t =>
        .next (setStatus f.status (setRes0 (loopResult f.etherType t.tcp t.arp f.taken) t.state)) := by
  change andThen (frameDemuxBody (callEventHandler s)) _ = _
  rw [callEventHandler_of_nextArrivals h]
  rfl

/-- With no script pending FRAME_DEMUX leaves none. -/
theorem frameDemuxBody_idle (hnone : s.env.handoffs = []) :
    Ensures (frameDemuxBody s) fun f => f.state.env.handoffs = [] := by
  unfold frameDemuxBody
  split
  · exact ensures_next.mpr hnone
  case h_2 f rest _ =>
    have hkept := idleWithQueue_keptByReceive rest
    exact ensures_andThen (hkept.read _ ⟨hnone, rfl⟩) fun _ hl =>
      ensures_andThen (dispatchFrame_keeps hkept hl _) fun _ hr => ensures_next.mpr hr.1

/-- Settles O56: the timer arms do the same after FRAME_DEMUX's last writes as before them, and RES0 is the join. -/
theorem netTickIsThreeSteps : Obligations.NetTickIsThreeSteps := by
  intro s u v frames rest hnone harrive hdemux hsvc
  rw [execFrameDemux_eq] at hdemux
  obtain ⟨f, hbody, hu⟩ := andThen_eq_next.mp hdemux
  cases hu
  have hidle : f.state.env.handoffs = [] :=
    (frameDemuxBody_idle (s := eventsHandled s frames rest) hnone).of_next f hbody
  rw [execTimerSvc_eq] at hsvc
  obtain ⟨t, htimer, hv⟩ := andThen_eq_next.mp hsvc
  cases hv
  obtain ⟨ht, -⟩ := timerBody_eq_next htimer
  obtain ⟨now, w, hclock⟩ : ∃ now w, callClock f.state = (now, w) := ⟨_, _, rfl⟩
  obtain ⟨arp, harp⟩ := exists_fired now f.state.arpTimer 10
  obtain ⟨tcp, htcp⟩ := exists_fired now f.state.tcpTimer 1
  have hserved := timerBody_of_idle (s := f.state) ht hidle hclock harp htcp
  have hserved' := timerBody_of_idle ht hidle (by rw [callClock_setStatus_setRes0, hclock]) harp htcp
  cases htimer.symm.trans hserved'
  rw [execNetTick_of_nextArrivals harrive, hbody, andThen_next, hserved, andThen_next]
  simp only [setStatus_res0, setRes0_res0, loopResult_or, setStatus_status, timersServed_setStatus_setRes0,
    setStatus_setRes0_overwritten]

/-- The event handler and FRAME_DEMUX have found nothing. -/
def idleDemuxed (s : State) : State :=
  { s with
    res0 := 0#32, held := { s.held with res0 := true }, status := 0x00#8
    trace := s.trace ++ [.linkEventHandler, .linkPacketReady false] }

/-- Settles O55: the three steps, the second on an empty queue. -/
theorem netTickWithoutFrame : Obligations.NetTickWithoutFrame := by
  intro s now rest arp tcp ht hnone hclock hq harrivals harp htcp
  have hdemux : exec .frameDemux (eventsHandled s [] []) = .next (idleDemuxed s) := by
    rw [eventsHandled_none harrivals, frameDemuxEmptyQueue _ (by exact hq), List.append_assoc]
    rfl
  have hsvc := timerSvcResult (idleDemuxed s) now rest arp tcp ht hnone hclock harp htcp
  rw [netTickIsThreeSteps s _ _ [] [] hnone (.inr ⟨harrivals, rfl, rfl⟩) hdemux hsvc]
  simp [idleDemuxed]

/-! ### NET_INIT (44_event_loop R239) -/

/-- Settles O57: two hand-offs that are their events, the listed clock value, and the exit that closes the header. -/
theorem netInitResult : Obligations.NetInitResult := by
  intro s now rest hnone hclock
  refine ends_of_exit (st := .success) ?_
  change andThen (handOff .arpInit s) _ = _
  rw [handOff_of_none hnone, andThen_next, handOff_of_none (e := .tcpInit) (by exact hnone), andThen_next,
    callClock_listed (by exact hclock), List.append_assoc, List.append_assoc]
  rfl

end Sys2Proof.Machine
end

section
/-! PROOFS. Before NET_INIT (44_event_loop R235, 10_state R35): only NET_INIT gives the timers a value, and a collaborator cannot
start it (93 U9), so that the timer step of a tick is refused whatever the frame step did. The section shows that no action
inside a hand-off gives the timers a value; the rest is the rule of `KeptByReceive`. -/

namespace Sys2Proof.Machine

open Sys2Proof.Claims

/-- ARP_TIMER and TCP_TIMER hold no value. -/
def TimersUnset (s : State) : Prop := s.held.timers = false

/-- Only whether the timers hold a value matters. -/
theorem timersUnset_of_eq {s t : State} (ht : t.held.timers = s.held.timers) (hs : TimersUnset s) : TimersUnset t := by
  rw [TimersUnset, ht]; exact hs

/-- The timer step is refused (44_event_loop R235). -/
theorem timerBody_of_unset {s : State} (hs : TimersUnset s) (h : State → Result State) :
    timerBody h s = .refused (.registerHoldsNoValue 40) := by
  rw [timerBody, readHeld_of_not_held hs, andThen_refused]

section Actions
variable {s : State} (hs : TimersUnset s)
include hs

theorem raiseStatus_timersUnset (st : Status) : Ensures (raiseStatus st s) TimersUnset := ensures_next.mpr hs

theorem finishWith_timersUnset (v : Word) : Ensures (finishWith v s) TimersUnset := ensures_next.mpr hs

theorem callLookup_timersUnset (a : Word) : TimersUnset (callLookup a s).2 := by
  obtain ⟨e, n, h, -⟩ := callLookup_state a s
  exact timersUnset_of_eq (by rw [h]) hs

theorem callRequest_timersUnset (a : Word) : TimersUnset (callRequest a s).2 := by
  obtain ⟨e, n, h, -⟩ := callRequest_state a s
  exact timersUnset_of_eq (by rw [h]) hs

theorem callWriteStart_timersUnset (target : LinkAddr) (ty : Half) : TimersUnset (callWriteStart target ty s).2 := by
  obtain ⟨e, n, buf, h, -⟩ := callWriteStart_state target ty s
  exact timersUnset_of_eq (by rw [h]) hs

theorem callSend_timersUnset : TimersUnset (callSend s).2 := by
  obtain ⟨e, n, buf, h, -⟩ := callSend_state s
  exact timersUnset_of_eq (by rw [h]) hs

theorem callInsert_timersUnset (bs : List Byte) (o : Nat) : Ensures (callInsert bs o s) TimersUnset :=
  ensures_andThen (ensures_ite (ensures_next.mpr hs) (ensures_refused ..)) fun _ ht => ensures_next.mpr ht

theorem callRxChecksum_timersUnset (n : Nat) (seed : Half) :
    Ensures (callRxChecksum n seed s) fun r => TimersUnset r.2 :=
  ensures_andThen_read fun _ => ensures_next.mpr hs

theorem callTxChecksum_timersUnset (o n : Nat) (seed : Half) :
    Ensures (callTxChecksum o n seed s) fun r => TimersUnset r.2 :=
  ensures_andThen_read fun _ => ensures_next.mpr hs

/-- TX_START makes the TX_* registers hold a value, not the timers (43_transmit R206). -/
theorem emitTemplate_timersUnset (target : LinkAddr) (host dest : Word) (protocol : Byte) :
    Ensures (emitTemplate target host dest protocol s) TimersUnset := by
  have hw : TimersUnset (callWriteStart target Config.ethertypeIpv4 (setLinkTarget target s)).2 :=
    callWriteStart_timersUnset (s := setLinkTarget target s) hs ..
  refine ensures_ite (raiseStatus_timersUnset (timersUnset_of_eq ?_ hw) _)
    (raiseStatus_timersUnset (timersUnset_of_eq (by rw [releaseLinkTarget_held]) hw) _)
  rw [setTxActive_held, recordTx_held, releaseLinkTarget_held, writeTemplate_eq]
  rfl

theorem execTxStart_timersUnset : Ensures (execTxStart s) TimersUnset := by
  refine ensures_andThen_read fun dest => ensures_andThen_read fun p => ?_
  have h1 : TimersUnset (setTxActive false s) := hs
  refine ensures_ite (raiseStatus_timersUnset h1 _) (ensures_ite (emitTemplate_timersUnset h1 ..) ?_)
  have hl := callLookup_timersUnset h1 (nextHop dest s.cfgAddr s.cfgMask s.cfgGw)
  dsimp only
  split
  · exact raiseStatus_timersUnset (callRequest_timersUnset hl _) _
  · exact emitTemplate_timersUnset hl ..

theorem execTxSend_timersUnset : Ensures (execTxSend s) TimersUnset :=
  ensures_andThen_read fun _ =>
  ensures_ite (ensures_refused ..) <| ensures_ite (ensures_refused ..) <|
  ensures_andThen (callInsert_timersUnset (s := setTxActive false s) hs ..) fun _ h1 =>
  ensures_andThen (callTxChecksum_timersUnset h1 ..) fun _ h2 =>
  ensures_andThen (callInsert_timersUnset h2 ..) fun _ h3 =>
  raiseStatus_timersUnset (callSend_timersUnset h3) _

/-- An outside agent makes operand registers hold a value only. -/
theorem writeRegister_timersUnset (reg : Nat) (v : Word) : Ensures (writeRegister reg v s) TimersUnset := by
  refine ⟨fun t h => ?_⟩
  obtain ⟨-, rfl⟩ | ⟨-, rfl⟩ | ⟨-, rfl⟩ | ⟨-, rfl⟩ | ⟨-, rfl⟩ | ⟨-, rfl⟩ | ⟨-, rfl⟩ := writeRegister_eq_next h
  all_goals exact hs

theorem outsideLink_timersUnset (a : LinkCall) : Ensures (outsideLink a s) TimersUnset := by
  cases a with
  | packetReady | flush | write8 | write16 | write32 => exact ensures_next.mpr hs
  | nextPacketUpdate =>
    simp only [outsideLink]
    split
    · exact ensures_refused ..
    · exact ensures_next.mpr hs
  | readBlock | dump | getReadPointer => exact ensures_andThen_read fun _ => ensures_next.mpr hs
  | writeStart target ty => exact ensures_next.mpr (callWriteStart_timersUnset hs target ty)
  | insert => exact ensures_ite (ensures_next.mpr hs) (ensures_refused ..)
  | send => exact ensures_next.mpr (callSend_timersUnset hs)

theorem outsideInput_timersUnset (a : Input) : Ensures (outsideInput a s) TimersUnset := by
  cases a with
  | writeReg reg v => exact writeRegister_timersUnset hs reg v
  | readReg => exact ensures_andThen_read fun _ => ensures_next.mpr hs
  | arrive => exact ensures_next.mpr hs
  | link c => exact outsideLink_timersUnset hs c

/-- No command inside a hand-off gives the timers a value: NET_INIT is refused there, and so is TIMER_SVC without one. -/
theorem nestedCommand_timersUnset (h : State → Result State) (c : Byte) :
    Ensures (nestedCommand h c s) TimersUnset := by
  unfold nestedCommand
  cases decodeCmd c with
  | nop | illegal10 | illegal20 | illegal40 | illegal80 => exact ensures_next.mpr hs
  | csumRx =>
    exact ensures_andThen_read fun _ => ensures_andThen_read fun _ =>
      ensures_andThen (callRxChecksum_timersUnset hs ..) fun _ hr => finishWith_timersUnset hr _
  | csumTx =>
    exact ensures_andThen_read fun _ => ensures_andThen_read fun _ => ensures_andThen_read fun _ =>
      ensures_andThen (callTxChecksum_timersUnset hs ..) fun _ hr => finishWith_timersUnset hr _
  | swap16 | swap32 => exact ensures_andThen_read fun _ => finishWith_timersUnset hs _
  | isBcast => exact ensures_andThen_read fun _ => ensures_andThen_read fun _ => finishWith_timersUnset hs _
  | classify | sameSubnet =>
    exact ensures_andThen_read fun _ => ensures_andThen_read fun _ => ensures_andThen_read fun _ =>
      finishWith_timersUnset hs _
  | phcsum =>
    exact ensures_andThen_read fun _ => ensures_andThen_read fun _ => ensures_andThen_read fun _ =>
      ensures_andThen_read fun _ => finishWith_timersUnset (s := setAcc _ s) hs _
  | txStart => exact execTxStart_timersUnset hs
  | txSend => exact execTxSend_timersUnset hs
  | timerSvc =>
    dsimp only
    rw [timerService, timerBody_of_unset hs, andThen_refused]
    exact ensures_refused ..
  | rxParse | frameDemux | netTick | netInit | etypeArp | etypeIpv4 | protoIcmp | protoTcp | ipv4Byte0Accepted =>
    exact ensures_refused ..

theorem nestedInput_timersUnset (h : State → Result State) (a : Input) : Ensures (nestedInput h a s) TimersUnset := by
  unfold nestedInput
  split
  case h_1 c _ => exact nestedCommand_timersUnset (s := setCmd c s) hs h c
  case h_2 => exact ensures_ite (ensures_refused ..) (outsideInput_timersUnset hs a)

/-- Whatever a collaborator does, at any depth of nesting, the timers hold no value afterwards. -/
theorem handOff_timersUnset (e : Event) : Ensures (handOff e s) TimersUnset :=
  ⟨fun _ => collaborate_keeps (P := TimersUnset) (s := logEvent e s) (fun _ _ hu => hu)
    (fun h a _ _ _ hu => (nestedInput_timersUnset hu h a).of_next _) hs⟩

end Actions

theorem timersUnset_keptByReceive : KeptByReceive TimersUnset where
  sum n seed _ hs := callRxChecksum_timersUnset hs n seed
  read _ _ hs := ensures_andThen_read fun _ => ensures_next.mpr hs
  dump _ _ hs := ensures_andThen_read fun _ => ensures_next.mpr hs
  seed _ _ hs := hs
  load _ _ hs := hs
  close {s} hs := timersUnset_of_eq (by rw [closeHeader_held]) hs
  handOver e _ hs := handOff_timersUnset hs e

/-- The frame step of a tick leaves the timers without a value. -/
theorem frameDemuxBody_timersUnset {s : State} (hs : TimersUnset s) :
    Ensures (frameDemuxBody s) fun f => TimersUnset f.state := by
  unfold frameDemuxBody
  split
  · exact ensures_next.mpr hs
  · exact ensures_andThen (timersUnset_keptByReceive.read _ hs) fun _ hl =>
      ensures_andThen (dispatchFrame_keeps timersUnset_keptByReceive hl _) fun _ hr => ensures_next.mpr hr

/-! ### The tick -/

/-- What gives no result is refused (60_exceptions R280). -/
theorem exists_refused {α : Type} {o : Result α} (h : ∀ a, o ≠ .next a) : ∃ r, o = .refused r := by
  cases o with
  | next a => exact absurd rfl (h a)
  | fault f => cases f
  | refused r => exact ⟨r, rfl⟩

section Tick
variable {s : State} {frames : List (List Byte)} {later : List (List (List Byte))}

/-- Where the frame step has run, the timer step refuses the tick. -/
theorem execNetTick_of_unset {f : FrameResult} (hs : TimersUnset s) (harrive : nextArrivals s frames later)
    (hbody : frameDemuxBody (eventsHandled s frames later) = .next f) :
    exec .netTick s = .refused (.registerHoldsNoValue 40) := by
  have hf : TimersUnset f.state := (frameDemuxBody_timersUnset (s := eventsHandled s frames later) hs).of_next f hbody
  rw [execNetTick_of_nextArrivals harrive, hbody, andThen_next, timerBody_of_unset hf, andThen_refused]

/-- Some frames arrive, or none (45_interfaces R250). -/
theorem exists_nextArrivals (s : State) : ∃ frames later, nextArrivals s frames later := by
  cases h : s.env.arrivals with
  | nil => exact ⟨[], [], .inr ⟨h, rfl, rfl⟩⟩
  | cons frames later => exact ⟨frames, later, .inl h⟩

/-- Before NET_INIT every tick is refused: by the frame step, or else by the timer step. -/
theorem execNetTick_refused_of_unset (hs : TimersUnset s) : ∃ r, exec .netTick s = .refused r := by
  obtain ⟨frames, later, harrive⟩ := exists_nextArrivals s
  refine exists_refused fun t ht => ?_
  have hnext := ht
  rw [execNetTick_of_nextArrivals harrive] at hnext
  obtain ⟨f, hbody, -⟩ := andThen_eq_next.mp hnext
  exact nomatch ht.symm.trans (execNetTick_of_unset hs harrive hbody)

end Tick

/-- Settles O54: a short frame stops the frame step, and timers without a value the timer step. -/
theorem eventLoopRefusals : Obligations.EventLoopRefusals := by
  refine ⟨fun s f rest => execFrameDemux_of_short, fun s frames later f rest harrive hq hl => ?_, fun s hs => ?_,
    fun s => execNetTick_refused_of_unset, fun s frames later hs harrive hq => ?_,
    fun s u frames later hs harrive hdemux => ?_⟩
  · rw [execNetTick_of_nextArrivals harrive, frameDemuxBody_of_short (s := eventsHandled s frames later) hq hl,
      andThen_refused]
  · rw [execTimerSvc_eq, timerBody_of_unset hs, andThen_refused]
  · exact execNetTick_of_unset hs harrive (frameDemuxBody_of_empty (s := eventsHandled s frames later) hq)
  · rw [execFrameDemux_eq] at hdemux
    obtain ⟨f, hbody, -⟩ := andThen_eq_next.mp hdemux
    exact execNetTick_of_unset hs harrive hbody

end Sys2Proof.Machine
end

section
/-! PROOFS. The invariant (60_exceptions R281, 10_state R25, R26, R29, 20_memory R62). A collaborator may be called while
RX_PARSE has a header loaded, so what the operations keep is said for either value of HDR_VALID; the receive pipeline alone
sets it, and clears it at its end. Hand-offs go by the induction over scripts of Laws/Handoff.lean. -/

namespace Sys2Proof.Machine

open Sys2Proof.Safety

/-! ### The invariant while an operation runs -/

/-- The clauses of the invariant, with HDR_VALID at `valid`. -/
def SoundWith (valid : Bool) (s : State) : Prop :=
  s.status.toNat ≤ 0x0B ∧ s.hdrValid = valid ∧ s.mem.wf = true ∧ s.csumAcc.toNat < 0x10000 ∧
    (s.txActive = true → s.held.tx = true ∧ s.txStartPos.toNat = 14)

/-- Between operations no header is loaded. -/
theorem soundWith_false_iff {s : State} : SoundWith false s ↔ Inv s :=
  ⟨fun ⟨hstatus, hheader, hmem, hacc, htx⟩ => ⟨hstatus, hheader, hmem, hacc, htx⟩,
    fun ⟨hstatus, hheader, hmem, hacc, htx⟩ => ⟨hstatus, hheader, hmem, hacc, htx⟩⟩

/-! The ranges of the two buffers -/

/-- A range of RX space that is given has the length asked for at most, and the read pointer may move past it. -/
theorem rxRange_ensures (n : Nat) (m : Memory) :
    Ensures (rxRange n m) fun bs => bs.length ≤ n ∧ (advance n m).wf = true := by
  refine ⟨fun bs e => ?_⟩
  obtain ⟨f, hf, hle, rfl⟩ := rxRange_eq_next.mp e
  exact ⟨List.length_take_le .., advance_wf hf hle⟩

theorem txRange_ensures (o n : Nat) (m : Memory) : Ensures (txRange o n m) fun bs => bs.length ≤ n := by
  refine ⟨fun bs e => ?_⟩
  obtain ⟨-, rfl⟩ := txRange_eq_next.mp e
  exact List.length_take_le ..

section Actions
variable {valid : Bool} {s : State} (hs : SoundWith valid s)
include hs

/-! ### The writes that the clauses speak of -/

theorem setStatus_sound (st : Status) : SoundWith valid (setStatus st s) := by
  obtain ⟨-, hrest⟩ := hs
  exact ⟨statusCode_le st, hrest⟩

theorem setMem_sound {m : Memory} (hm : m.wf = true) : SoundWith valid (setMem m s) := by
  obtain ⟨hstatus, hheader, -, hrest⟩ := hs
  exact ⟨hstatus, hheader, hm, hrest⟩

/-- CSUM_ACC gets a folded sum (10_state R29). -/
theorem setAcc_sound {a : Nat} (ha : a ≤ 0xFFFF) : SoundWith valid (setAcc a s) := by
  obtain ⟨hstatus, hheader, hmem, -, htx⟩ := hs
  refine ⟨hstatus, hheader, hmem, ?_, htx⟩
  rw [setAcc_csumAcc, BitVec.toNat_ofNat]
  omega

theorem setTxActive_false_sound : SoundWith valid (setTxActive false s) := by
  obtain ⟨hstatus, hheader, hmem, hacc, -⟩ := hs
  exact ⟨hstatus, hheader, hmem, hacc, nofun⟩

/-- What TX_START records on success is what the invariant asks of TX_ACTIVE (43_transmit R206). -/
theorem recordTx_sound (src dst : Word) (protocol : Byte) :
    SoundWith valid (setTxActive true (recordTx src dst protocol s)) := by
  obtain ⟨hstatus, hheader, hmem, hacc, -⟩ := hs
  exact ⟨hstatus, hheader, hmem, hacc, fun _ => ⟨rfl, rfl⟩⟩

theorem openHeader_sound (h : Header) : SoundWith true (openHeader h s) := by
  obtain ⟨hstatus, -, hrest⟩ := hs
  exact ⟨hstatus, rfl, hrest⟩

/-- HDR_VALID is 0 after it, whatever it was (10_state R25). -/
theorem closeHeader_sound : SoundWith false (closeHeader s) := by
  obtain ⟨hstatus, -, hrest⟩ := hs
  refine ⟨?_, closeHeader_hdrValid s, ?_⟩
  · rwa [closeHeader_status]
  · rwa [closeHeader_mem, closeHeader_csumAcc, closeHeader_txActive, closeHeader_held, closeHeader_txStartPos]

theorem logEvent_sound (e : Event) : SoundWith valid (logEvent e s) := hs

theorem releaseLinkTarget_sound : SoundWith valid (releaseLinkTarget s) := hs

theorem loadTimers_sound (t : Word) : SoundWith valid (loadTimers t s) := hs

theorem raiseStatus_sound (st : Status) : Ensures (raiseStatus st s) (SoundWith valid) :=
  ensures_next.mpr (setStatus_sound hs st)

theorem finishWith_sound (v : Word) : Ensures (finishWith v s) (SoundWith valid) :=
  raiseStatus_sound (s := setRes0 v s) hs _

/-! ### The calls -/

theorem callClock_sound : SoundWith valid (callClock s).2 := by
  obtain ⟨e, n, h, -⟩ := callClock_state s
  rw [h]; exact hs

theorem callLookup_sound (a : Word) : SoundWith valid (callLookup a s).2 := by
  obtain ⟨e, n, h, -⟩ := callLookup_state a s
  rw [h]; exact hs

theorem callRequest_sound (a : Word) : SoundWith valid (callRequest a s).2 := by
  obtain ⟨e, n, h, -⟩ := callRequest_state a s
  rw [h]; exact hs

theorem callWriteStart_sound (target : LinkAddr) (ty : Half) : SoundWith valid (callWriteStart target ty s).2 := by
  obtain ⟨e, n, buf, h, -⟩ := callWriteStart_state target ty s
  rw [h]; exact hs

theorem callSend_sound : SoundWith valid (callSend s).2 := by
  obtain ⟨e, n, buf, h, -⟩ := callSend_state s
  rw [h]; exact hs

theorem callEventHandler_sound : SoundWith valid (callEventHandler s) := by
  obtain ⟨e, fs, h, -⟩ := callEventHandler_state s
  rw [h]; exact hs

theorem callFlush_sound : SoundWith valid (callFlush s) := setMem_sound hs (releaseFrame_wf _)

theorem insertBytes_sound (bs : List Byte) (o : Nat) : Ensures (insertBytes bs o s) (SoundWith valid) :=
  ensures_ite (ensures_next.mpr hs) (ensures_refused ..)

theorem callInsert_sound (bs : List Byte) (o : Nat) : Ensures (callInsert bs o s) (SoundWith valid) :=
  ensures_andThen (insertBytes_sound hs bs o) fun _ ht => ensures_next.mpr ht

theorem callReadBlock_sound (n : Nat) : Ensures (callReadBlock n s) fun r => SoundWith valid r.2 :=
  ensures_andThen (rxRange_ensures ..) fun _ ⟨_, hm⟩ => ensures_next.mpr (setMem_sound hs hm)

theorem callDump_sound (n : Nat) : Ensures (callDump n s) (SoundWith valid) :=
  ensures_andThen (rxRange_ensures ..) fun _ ⟨_, hm⟩ => ensures_next.mpr (setMem_sound hs hm)

/-- The sum of a range that the interface can express is folded to 16 bits (40_checksum R138). -/
theorem callRxChecksum_sound {n : Nat} (hn : n ≤ 65535) (seed : Half) :
    Ensures (callRxChecksum n seed s) fun r => SoundWith valid r.2 :=
  ensures_andThen (rxRange_ensures ..) fun _ ⟨hlen, _⟩ =>
    ensures_next.mpr (setAcc_sound hs (foldedSum_le (hlen.trans hn) seed))

theorem callTxChecksum_sound (o : Nat) {n : Nat} (hn : n ≤ 65535) (seed : Half) :
    Ensures (callTxChecksum o n seed s) fun r => SoundWith valid r.2 :=
  ensures_andThen (txRange_ensures ..) fun _ hlen =>
    ensures_next.mpr (setAcc_sound hs (foldedSum_le (hlen.trans hn) seed))

/-- The pseudo-header's sum is folded too (40_checksum R135). -/
theorem setAcc_phFoldedSum_sound (protocol : Byte) (payloadLength : Half) (src dst : Word) :
    SoundWith valid (setAcc (phFoldedSum protocol payloadLength src dst) s) :=
  setAcc_sound hs (foldedSum_le (by rw [pseudoHeader_length]; decide) _)

/-! ### Transmit -/

/-- TX_ACTIVE is set only together with what TX_START records (43_transmit R206). -/
theorem emitTemplate_sound (target : LinkAddr) (host dest : Word) (protocol : Byte) :
    Ensures (emitTemplate target host dest protocol s) (SoundWith valid) := by
  have hw : SoundWith valid (callWriteStart target Config.ethertypeIpv4 (setLinkTarget target s)).2 :=
    callWriteStart_sound (s := setLinkTarget target s) hs ..
  have ht : SoundWith valid
      (writeTemplate host dest protocol (callWriteStart target Config.ethertypeIpv4 (setLinkTarget target s)).2) := by
    rw [writeTemplate_eq]; exact hw
  exact ensures_ite (raiseStatus_sound (recordTx_sound (releaseLinkTarget_sound ht) ..) _)
    (raiseStatus_sound (releaseLinkTarget_sound hw) _)

theorem execTxStart_sound : Ensures (execTxStart s) (SoundWith valid) := by
  refine ensures_andThen_read fun dest => ensures_andThen_read fun p => ?_
  have h1 := setTxActive_false_sound hs
  refine ensures_ite (raiseStatus_sound h1 _) (ensures_ite (emitTemplate_sound h1 ..) ?_)
  have hl := callLookup_sound h1 (nextHop dest s.cfgAddr s.cfgMask s.cfgGw)
  dsimp only
  split
  · exact raiseStatus_sound (callRequest_sound hl _) _
  · exact emitTemplate_sound hl ..

theorem execTxSend_sound : Ensures (execTxSend s) (SoundWith valid) :=
  ensures_andThen_read fun _ =>
  ensures_ite (ensures_refused ..) <| ensures_ite (ensures_refused ..) <|
  ensures_andThen (callInsert_sound (setTxActive_false_sound hs) ..) fun _ h1 =>
  ensures_andThen (callTxChecksum_sound h1 _ (by decide) _) fun _ h2 =>
  ensures_andThen (callInsert_sound h2 ..) fun _ h3 =>
  raiseStatus_sound (callSend_sound h3) _

/-! ### Outside agents -/

/-- What an outside agent writes are the configuration and the operands. -/
theorem writeRegister_sound (reg : Nat) (v : Word) : Ensures (writeRegister reg v s) (SoundWith valid) := by
  refine ⟨fun t h => ?_⟩
  obtain ⟨-, rfl⟩ | ⟨-, rfl⟩ | ⟨-, rfl⟩ | ⟨-, rfl⟩ | ⟨-, rfl⟩ | ⟨-, rfl⟩ | ⟨-, rfl⟩ := writeRegister_eq_next h
  all_goals exact hs

theorem outsideLink_sound (c : LinkCall) : Ensures (outsideLink c s) (SoundWith valid) := by
  cases c with
  | packetReady | write8 | write16 | write32 => exact ensures_next.mpr hs
  | flush => exact ensures_next.mpr (setMem_sound hs (releaseFrame_wf _))
  | nextPacketUpdate =>
    simp only [outsideLink]
    split
    · exact ensures_refused ..
    · exact ensures_next.mpr (setMem_sound hs (takeFrame_wf ..))
  | readBlock | dump =>
    exact ensures_andThen (rxRange_ensures ..) fun _ ⟨_, hm⟩ => ensures_next.mpr (setMem_sound hs hm)
  | getReadPointer => exact ensures_andThen_read fun _ => ensures_next.mpr hs
  | writeStart target ty => exact ensures_next.mpr (callWriteStart_sound hs target ty)
  | insert => exact insertBytes_sound hs ..
  | send => exact ensures_next.mpr (callSend_sound hs)

theorem outsideInput_sound (a : Input) : Ensures (outsideInput a s) (SoundWith valid) := by
  cases a with
  | writeReg reg v => exact writeRegister_sound hs reg v
  | readReg => exact ensures_andThen_read fun _ => ensures_next.mpr hs
  | arrive => exact ensures_next.mpr hs
  | link c => exact outsideLink_sound hs c

end Actions

/-! ### Hand-offs -/

section Timers
variable {valid : Bool} {h : State → Result State} (hh : ∀ u, SoundWith valid u → Ensures (h u) (SoundWith valid))
include hh

theorem arpMaintenance_sound (now : Word) {s : State} (hs : SoundWith valid s) :
    Ensures (arpMaintenance h now s) fun r => SoundWith valid r.1 :=
  ensures_ite (ensures_andThen (hh _ hs) fun _ ht => ensures_next.mpr ht) (ensures_next.mpr hs)

theorem tcpMaintenance_sound (now : Word) {s : State} (hs : SoundWith valid s) :
    Ensures (tcpMaintenance h now s) fun r => SoundWith valid r.1 :=
  ensures_ite (ensures_andThen (hh _ hs) fun _ ht => ensures_next.mpr ht) (ensures_next.mpr hs)

theorem timerBody_sound {s : State} (hs : SoundWith valid s) :
    Ensures (timerBody h s) fun r => SoundWith valid r.state :=
  ensures_andThen_read fun _ =>
  ensures_andThen (arpMaintenance_sound hh _ (callClock_sound hs)) fun _ ha =>
  ensures_andThen (tcpMaintenance_sound hh _ ha) fun _ ht => ensures_next.mpr ht

/-- The commands that a collaborator may start, under deeper hand-offs that keep the clauses. -/
theorem nestedCommand_sound (c : Byte) {s : State} (hs : SoundWith valid s) :
    Ensures (nestedCommand h c s) (SoundWith valid) := by
  have half_le (v : Word) : (low16 v).toNat ≤ 65535 := Nat.le_of_lt_succ (low16 v).isLt
  unfold nestedCommand
  cases decodeCmd c with
  | nop => exact ensures_next.mpr hs
  | illegal10 | illegal20 | illegal40 | illegal80 => exact raiseStatus_sound hs _
  | csumRx =>
    exact ensures_andThen_read fun length => ensures_andThen_read fun _ =>
      ensures_andThen (callRxChecksum_sound hs (half_le length) _) fun _ hr => finishWith_sound hr _
  | csumTx =>
    exact ensures_andThen_read fun _ => ensures_andThen_read fun length => ensures_andThen_read fun _ =>
      ensures_andThen (callTxChecksum_sound hs _ (half_le length) _) fun _ hr => finishWith_sound hr _
  | phcsum =>
    exact ensures_andThen_read fun _ => ensures_andThen_read fun _ => ensures_andThen_read fun _ =>
      ensures_andThen_read fun _ => finishWith_sound (setAcc_phFoldedSum_sound hs ..) _
  | swap16 | swap32 => exact ensures_andThen_read fun _ => finishWith_sound hs _
  | isBcast => exact ensures_andThen_read fun _ => ensures_andThen_read fun _ => finishWith_sound hs _
  | classify | sameSubnet =>
    exact ensures_andThen_read fun _ => ensures_andThen_read fun _ => ensures_andThen_read fun _ =>
      finishWith_sound hs _
  | txStart => exact execTxStart_sound hs
  | txSend => exact execTxSend_sound hs
  | timerSvc => exact ensures_andThen (timerBody_sound hh hs) fun _ hr => finishWith_sound hr _
  | rxParse | frameDemux | netTick | netInit | etypeArp | etypeIpv4 | protoIcmp | protoTcp | ipv4Byte0Accepted =>
    exact ensures_refused ..

theorem nestedInput_sound (a : Input) {s : State} (hs : SoundWith valid s) :
    Ensures (nestedInput h a s) (SoundWith valid) := by
  unfold nestedInput
  split
  case h_1 c _ => exact nestedCommand_sound hh c (s := setCmd c s) hs
  case h_2 => exact ensures_ite (ensures_refused ..) (outsideInput_sound hs a)

end Timers

/-- Whatever a collaborator does, at any depth of nesting, the clauses hold afterwards. -/
theorem collaborate_sound {valid : Bool} (s : State) (hs : SoundWith valid s) :
    Ensures (collaborate s) (SoundWith valid) :=
  ⟨fun _ => collaborate_keeps (P := SoundWith valid) (fun _ _ hu => hu)
    (fun _ a _ _ hh hu => (nestedInput_sound (fun u hu => ⟨fun v => hh u v hu⟩) a hu).of_next _) hs⟩

theorem handOff_sound {valid : Bool} {s : State} (hs : SoundWith valid s) (e : Event) :
    Ensures (handOff e s) (SoundWith valid) := collaborate_sound _ (logEvent_sound hs e)

/-! ### The receive pipeline -/

section Receive
variable {valid : Bool} {s : State} (hs : SoundWith valid s)
include hs

theorem icmpArm_sound {n : Nat} (hn : n ≤ 65535) : Ensures (icmpArm n s) fun r => SoundWith valid r.1 :=
  ensures_ite (ensures_next.mpr hs) <|
  ensures_andThen (callRxChecksum_sound hs hn _) fun _ hc =>
  ensures_ite (ensures_andThen (handOff_sound hc _) fun _ ht => ensures_next.mpr ht) (ensures_next.mpr hc)

theorem tcpArm_sound {n : Nat} (hn : n ≤ 65535) : Ensures (tcpArm n s) fun r => SoundWith valid r.1 :=
  ensures_andThen (callRxChecksum_sound (setAcc_phFoldedSum_sound hs ..) hn _) fun _ hc =>
  ensures_ite (ensures_andThen (handOff_sound hc _) fun _ ht => ensures_next.mpr ht) (ensures_next.mpr hc)

/-- A payload's length is a 16-bit value, so that its sum is folded. -/
theorem dispatchProtocol_sound : Ensures (dispatchProtocol s) fun r => SoundWith valid r.1 := by
  refine ensures_andThen (Q := fun n => n ≤ 65535) ⟨fun _ => payloadLength_le⟩ fun n hn => ?_
  split
  · exact icmpArm_sound hs hn
  · exact tcpArm_sound hs hn
  · exact ensures_andThen (callDump_sound hs n) fun _ ht => ensures_next.mpr ht

theorem validateHeader_sound (host : Word) : Ensures (validateHeader host s) fun r => SoundWith valid r.1 :=
  ensures_ite (ensures_next.mpr hs) <| ensures_ite (ensures_next.mpr hs) <|
  ensures_ite (ensures_next.mpr hs) <| ensures_ite (ensures_next.mpr hs) <|
  ensures_ite (ensures_andThen (callDump_sound hs _) fun _ ht => ensures_next.mpr ht) (dispatchProtocol_sound hs)

/-- RX_PARSE clears HDR_VALID, whether or not step 2 has set it (10_state R25). -/
theorem rxParseBody_sound : Ensures (rxParseBody s) fun r => SoundWith false r.1 := by
  have hparse : Ensures (parseHeader s) fun r => SoundWith false (closeHeader r.1) :=
    ensures_andThen (callRxChecksum_sound hs (by decide) _) fun _ hc =>
    ensures_ite (ensures_next.mpr (closeHeader_sound hc)) <|
    ensures_andThen (callReadBlock_sound hc _) fun _ hb =>
    ⟨fun r hr => closeHeader_sound ((validateHeader_sound (openHeader_sound hb _) _).of_next r hr)⟩
  exact ensures_andThen hparse fun _ hr => ensures_next.mpr hr

end Receive

/-! ### The event loop -/

section EventLoop
variable {s : State} (hs : SoundWith false s)
include hs

theorem dispatchFrame_sound (t : Half) : Ensures (dispatchFrame t s) fun r => SoundWith false r.1 := by
  unfold dispatchFrame
  split
  · exact ensures_andThen (handOff_sound hs _) fun _ ht => ensures_next.mpr ht
  · exact rxParseBody_sound hs
  · exact ensures_next.mpr hs

theorem frameDemuxBody_sound : Ensures (frameDemuxBody s) fun f => SoundWith false f.state := by
  unfold frameDemuxBody
  split
  case h_1 => exact ensures_next.mpr hs
  case h_2 f rest _ =>
    have htaken := setMem_sound (logEvent_sound hs (.linkPacketReady true)) (takeFrame_wf s.mem f rest)
    exact ensures_andThen (callReadBlock_sound (logEvent_sound htaken _) _) fun _ hl =>
      ensures_andThen (dispatchFrame_sound hl _) fun _ hr => ensures_next.mpr (callFlush_sound hr)

theorem execNetTick_sound : Ensures (execNetTick s) (SoundWith false) :=
  ensures_andThen (frameDemuxBody_sound (callEventHandler_sound hs)) fun _ hf =>
  ensures_andThen (timerBody_sound collaborate_sound hf) fun t ht => raiseStatus_sound (s := setRes0 _ t.state) ht _

theorem execNetInit_sound : Ensures (execNetInit s) (SoundWith false) :=
  ensures_andThen (handOff_sound hs _) fun _ h1 =>
  ensures_andThen (handOff_sound h1 _) fun s2 h2 =>
  have hload := loadTimers_sound (callClock_sound h2) (callClock s2).1
  raiseStatus_sound (closeHeader_sound (setTxActive_false_sound hload)) _

/-! ### Every command and every step -/

/-- A command that may not be nested is a receive operation or NET_INIT; every other is the one that a collaborator may
start. -/
theorem execCommand_sound (c : Byte) : Ensures (exec (decodeCmd c) s) (SoundWith false) := by
  by_cases hc : decodeCmd c ∈ [Instr.rxParse, .frameDemux, .netTick, .netInit]
  · simp only [List.mem_cons, List.not_mem_nil, or_false] at hc
    obtain hc | hc | hc | hc := hc
    all_goals rw [hc]
    · exact ensures_andThen (rxParseBody_sound hs) fun _ hr => raiseStatus_sound hr _
    · exact ensures_andThen (frameDemuxBody_sound hs) fun f hf => raiseStatus_sound (s := setRes0 _ f.state) hf _
    · exact execNetTick_sound hs
    · exact execNetInit_sound hs
  · have hnested := nestedCommand_sound collaborate_sound c hs
    rwa [nestedCommand_collaborate, if_neg hc] at hnested

theorem step_sound : Ensures (step s) (SoundWith false) := by
  unfold step
  split
  case h_1 => exact ensures_next.mpr hs
  case h_2 a rest _ =>
    split
    case h_1 c _ => exact execCommand_sound (s := setCmd c (setInputs rest s)) hs c
    case h_2 => exact outsideInput_sound (s := setInputs rest s) hs a

end EventLoop

/-- Settles O9: an access of an outside agent keeps each clause, and so does a command with its hand-offs. -/
theorem stepKeepsInvariant : Obligations.StepKeepsInvariant :=
  fun _ t hs h => soundWith_false_iff.mp ((step_sound (soundWith_false_iff.mpr hs)).of_next t h)

end Sys2Proof.Machine
end

section
/-! PROOFS. NOP and the illegal commands (30_encoding R101, 60_exceptions R294). -/

namespace Sys2Proof.Machine

/-- Each of the four rows writes ILLEGAL_COMMAND to STATUS, whatever its code is. -/
theorem exec_illegal {i : Instr} {c : Byte} (hi : i ∈ [Instr.illegal10 c, .illegal20 c, .illegal40 c, .illegal80 c])
    (s : State) : exec i s = .next { s with status := 0x0B#8 } := by
  simp only [List.mem_cons, List.not_mem_nil, or_false] at hi
  obtain rfl | rfl | rfl | rfl := hi
  all_goals rfl

/-- A code above the sixteen operations is in one of the four rows. -/
theorem decodeCmd_mem_illegal {c : Byte} (h : 0x10 ≤ c.toNat) :
    decodeCmd c ∈ [Instr.illegal10 c, .illegal20 c, .illegal40 c, .illegal80 c] := by
  rw [decodeCmd_of_ge h]
  split_ifs
  all_goals simp

/-- Settles O18: NOP by its definition, an illegal code by the row it is in. -/
theorem nopAndIllegalCommands : Obligations.NopAndIllegalCommands :=
  ⟨fun _ => rfl, fun _ s hc => ⟨exec_illegal (decodeCmd_mem_illegal hc) s, fun _ hi => exec_illegal hi s⟩⟩

end Sys2Proof.Machine
end
